-- ==== Sys2Proof/Word.lean ====
section
/-! DEFINITION. The words of the ZB7240: bytes of frames, the 32-bit counters and their plainest arithmetic. -/

namespace Sys2Proof

/-- One byte of a frame. -/
abbrev Byte := BitVec 8

/-- A 16-bit count: event sequence numbers and cycle counts wrap at 65536. -/
abbrev Word16 := BitVec 16

/-- A 32-bit count: the capture timebase and the millisecond counter wrap at 2^32. -/
abbrev Word32 := BitVec 32

end Sys2Proof
end

