-- ==== Sys2Proof/Syntax.lean ====
section
/-! DEFINITION. The commands of the ZB7240: the names of its plant (breakers, channels, buses, slots, blocks, ports)
and one constructor of `Instr` for each row of spec/opcode_table.json. -/

namespace Sys2Proof

/-- The nineteen breakers, in index order 0 to 18 (spec/00_scope.md, section 3). -/
inductive Breaker where
  | i1 | i2 | tie | ma | mb
  | g1 | g2 | g3 | g4 | g5 | g6
  | f1 | f2 | f3 | f4 | f5 | f6 | f7 | f8
  deriving DecidableEq, Repr, Inhabited

/-- The eleven voltage channels, in index order 0 to 10; each is also the node of the same name. -/
inductive Channel where
  | u1 | u2 | ba | bb | gb | g1 | g2 | g3 | g4 | g5 | g6
  deriving DecidableEq, Repr, Inhabited

/-- The two utility supplies, each with a health record. -/
inductive Utility where
  | u1 | u2
  deriving DecidableEq, Repr, Inhabited

/-- The two load buses, each with a transfer record. -/
inductive Bus where
  | ba | bb
  deriving DecidableEq, Repr, Inhabited

/-- The three buses that have a dead-bus claim. -/
inductive ClaimBus where
  | ba | bb | gb
  deriving DecidableEq, Repr, Inhabited

/-- The six generator slots. -/
inductive Slot where
  | s1 | s2 | s3 | s4 | s5 | s6
  deriving DecidableEq, Repr, Inhabited

/-- The eight load blocks, each named by its feeder. -/
inductive Block where
  | f1 | f2 | f3 | f4 | f5 | f6 | f7 | f8
  deriving DecidableEq, Repr, Inhabited

/-- The three coordination ports. -/
inductive Port where
  | cpA | cpB | cpP
  deriving DecidableEq, Repr, Inhabited

/-- The eight slots of the attempt list. -/
inductive AttemptNo where
  | a0 | a1 | a2 | a3 | a4 | a5 | a6 | a7
  deriving DecidableEq, Repr, Inhabited

/-- The two key inputs. -/
inductive Key where
  | localKey | settingsKey
  deriving DecidableEq, Repr, Inhabited

/-- The two underfrequency stages. -/
inductive UfStage where
  | stage1 | stage2
  deriving DecidableEq, Repr, Inhabited

/-- The commands: one constructor for each row of spec/opcode_table.json, in the table's order. Payload bytes of port
requests keep the width they have in the frame, so that a value outside its range can be sent and refused. -/
inductive Instr where
  /-- Release of ML_FRM: the whole bytes of the frame, and how many bits of a partial byte stood after them. -/
  | measurementFrame (bytes : List Byte) (extraBits : Nat)
  | frameWatchdogExpiry
  | zeroCrossingRise (c : Channel)
  | pulseDiscarded (c : Channel)
  | qualifiedEdge (c : Channel)
  | lastEdgeTimerExpiry (c : Channel)
  | lossDelayExpiry (u : Utility)
  | returnStableExpiry (u : Utility)
  | attemptDeadline (n : AttemptNo)
  /-- The levels of the closed and the open auxiliary contact of a breaker from now on. -/
  | contactCombinationChange (b : Breaker) (closedMade openMade : Bool)
  | contactSettle (b : Breaker)
  | operationDeadline (b : Breaker)
  | claimLapse (bus : ClaimBus)
  /-- The overlap timer of the group that holds this node. -/
  | overlapExpiry (node : Channel)
  | reserveTimerExpiry (bus : Bus)
  | deadTimeExpiry (bus : Bus)
  | generatorWaitExpiry (bus : Bus)
  | arrivalLimitExpiry (bus : Bus)
  | gbLossTimerExpiry
  | startUpDelayEnd
  | readyChange (n : Slot) (level : Bool)
  | startTimerExpiry (n : Slot)
  | syncWaitExpiry (n : Slot)
  | rampStepExpiry (n : Slot)
  | unloadLimitExpiry (n : Slot)
  | cooldownExpiry (n : Slot)
  | biasPeriodStart
  | overloadTimerExpiry
  | underfrequencyTimerExpiry (st : UfStage)
  | restoreIntervalEnd
  | failureTimerExpiry (b : Breaker)
  /-- The write in flight completes; the flag is the outcome of the store's verify. -/
  | nonvolatileWriteCompletion (verified : Bool)
  | resetInputAsserted
  /-- Release of reset; the flag says whether the stored image passes its integrity check and format marker. -/
  | deviceReset (imageIntact : Bool)
  | keyInputChange (key : Key) (level : Bool)
  | keyChangeEffect (key : Key)
  | livenessLapse (p : Port)
  /-- The bytes clocked in before chip-select ended the window short of the request's checksum byte. -/
  | windowEnded (p : Port) (bytes : List Byte)
  | badRequest (p : Port)
  | readRecord (p : Port) (table first count : Byte)
  | status (p : Port)
  | eventRead (p : Port) (number : Byte)
  | takeover (p : Port)
  | release (p : Port)
  | liveness (p : Port)
  | hold (p : Port)
  | releaseHold (p : Port)
  | step (p : Port) (bus : Byte)
  | service (p : Port) (breaker flag : Byte)
  | operateClose (p : Port) (breaker : Byte)
  | operateOpen (p : Port) (breaker : Byte)
  | resetBreaker (p : Port) (breaker : Byte)
  | resetLockout (p : Port) (breaker : Byte)
  | transfer (p : Port) (bus target mode : Byte)
  | cancelTransfer (p : Port) (bus : Byte)
  | start (p : Port) (slot : Byte)
  | stop (p : Port) (slot : Byte)
  | resetSlot (p : Port) (slot : Byte)
  | biasSet (p : Port) (slot : Byte) (duty : Word16)
  | shed (p : Port) (mask : Byte)
  | restore (p : Port) (mask : Byte)
  | block (p : Port) (mask : Byte)
  | unblock (p : Port) (mask : Byte)
  | groupSelect (p : Port) (group : Byte)
  | sequenceReset (p : Port)
  | ackAttention (p : Port)
  | window (p : Port) (group : Byte)
  | settingRead (p : Port) (code index : Byte)
  | settingWrite (p : Port) (code index : Byte) (value : Word32)
  | curveBegin (p : Port) (curve : Byte)
  | curveEntry (p : Port) (threshold : Word16) (rate : Word32)
  | badCheck (p : Port)
  | biasHighTimeEnd (n : Slot)
  deriving DecidableEq, Repr, Inhabited

end Sys2Proof
end

