-- ==== Sys2Proof/Decode.lean ====
section
/-! DEFINITION. The decoder of table words. The command table gives bits for none of its rows, so no word spells a
command; the requests a port receives are made up of bytes, in Machine/Frames.lean. -/

namespace Sys2Proof

/-- The command a word spells by the table's bits: none. -/
def decodeTableWord (_nbits _w : Nat) : Option Instr := none

end Sys2Proof
end

