-- ==== Sys2Proof/Machine/Tables.lean ====
section
/-! DEFINITION. The fixed tables of the part as plain data: for each kind of thing the plant has a fixed number of
(breakers, channels, slots, ...), its members in index order, its index, and a table with one named entry for each. -/

namespace Sys2Proof

/-- Every breaker, in index order. -/
def Breaker.all : List Breaker :=
  [.i1, .i2, .tie, .ma, .mb, .g1, .g2, .g3, .g4, .g5, .g6, .f1, .f2, .f3, .f4, .f5, .f6, .f7, .f8]

/-- The index of a breaker. -/
def Breaker.index : Breaker → Nat
  | .i1 => 0
  | .i2 => 1
  | .tie => 2
  | .ma => 3
  | .mb => 4
  | .g1 => 5
  | .g2 => 6
  | .g3 => 7
  | .g4 => 8
  | .g5 => 9
  | .g6 => 10
  | .f1 => 11
  | .f2 => 12
  | .f3 => 13
  | .f4 => 14
  | .f5 => 15
  | .f6 => 16
  | .f7 => 17
  | .f8 => 18

/-- The breaker with an index, if there is one. -/
def Breaker.ofIndex : Nat → Option Breaker
  | 0 => some .i1
  | 1 => some .i2
  | 2 => some .tie
  | 3 => some .ma
  | 4 => some .mb
  | 5 => some .g1
  | 6 => some .g2
  | 7 => some .g3
  | 8 => some .g4
  | 9 => some .g5
  | 10 => some .g6
  | 11 => some .f1
  | 12 => some .f2
  | 13 => some .f3
  | 14 => some .f4
  | 15 => some .f5
  | 16 => some .f6
  | 17 => some .f7
  | 18 => some .f8
  | _ => none

/-- One entry for each breaker. -/
structure PerBreaker (α : Type) where
  i1 : α
  i2 : α
  tie : α
  ma : α
  mb : α
  g1 : α
  g2 : α
  g3 : α
  g4 : α
  g5 : α
  g6 : α
  f1 : α
  f2 : α
  f3 : α
  f4 : α
  f5 : α
  f6 : α
  f7 : α
  f8 : α
  deriving DecidableEq, Repr, Inhabited

/-- The entry of one breaker. -/
def PerBreaker.get {α : Type} (t : PerBreaker α) : Breaker → α
  | .i1 => t.i1
  | .i2 => t.i2
  | .tie => t.tie
  | .ma => t.ma
  | .mb => t.mb
  | .g1 => t.g1
  | .g2 => t.g2
  | .g3 => t.g3
  | .g4 => t.g4
  | .g5 => t.g5
  | .g6 => t.g6
  | .f1 => t.f1
  | .f2 => t.f2
  | .f3 => t.f3
  | .f4 => t.f4
  | .f5 => t.f5
  | .f6 => t.f6
  | .f7 => t.f7
  | .f8 => t.f8

/-- The table with the entry of one breaker replaced. -/
def PerBreaker.set {α : Type} (t : PerBreaker α) (i : Breaker) (v : α) : PerBreaker α :=
  match i with
  | .i1 => { t with i1 := v }
  | .i2 => { t with i2 := v }
  | .tie => { t with tie := v }
  | .ma => { t with ma := v }
  | .mb => { t with mb := v }
  | .g1 => { t with g1 := v }
  | .g2 => { t with g2 := v }
  | .g3 => { t with g3 := v }
  | .g4 => { t with g4 := v }
  | .g5 => { t with g5 := v }
  | .g6 => { t with g6 := v }
  | .f1 => { t with f1 := v }
  | .f2 => { t with f2 := v }
  | .f3 => { t with f3 := v }
  | .f4 => { t with f4 := v }
  | .f5 => { t with f5 := v }
  | .f6 => { t with f6 := v }
  | .f7 => { t with f7 := v }
  | .f8 => { t with f8 := v }

/-- The table whose entry for each breaker is given by a rule. -/
def PerBreaker.ofFn {α : Type} (f : Breaker → α) : PerBreaker α :=
  { i1 := f .i1, i2 := f .i2, tie := f .tie, ma := f .ma, mb := f .mb, g1 := f .g1, g2 := f .g2, g3 := f .g3, g4 := f .g4, g5 := f .g5, g6 := f .g6, f1 := f .f1, f2 := f .f2, f3 := f .f3, f4 := f .f4, f5 := f .f5, f6 := f .f6, f7 := f .f7, f8 := f .f8 }

/-- The table with one entry changed by a rule. -/
def PerBreaker.modify {α : Type} (t : PerBreaker α) (i : Breaker) (f : α → α) : PerBreaker α :=
  t.set i (f (t.get i))

/-- The entries in index order. -/
def PerBreaker.toList {α : Type} (t : PerBreaker α) : List α :=
  [t.i1, t.i2, t.tie, t.ma, t.mb, t.g1, t.g2, t.g3, t.g4, t.g5, t.g6, t.f1, t.f2, t.f3, t.f4, t.f5, t.f6, t.f7, t.f8]

/-- Every voltage channel, in index order. -/
def Channel.all : List Channel :=
  [.u1, .u2, .ba, .bb, .gb, .g1, .g2, .g3, .g4, .g5, .g6]

/-- The index of a voltage channel. -/
def Channel.index : Channel → Nat
  | .u1 => 0
  | .u2 => 1
  | .ba => 2
  | .bb => 3
  | .gb => 4
  | .g1 => 5
  | .g2 => 6
  | .g3 => 7
  | .g4 => 8
  | .g5 => 9
  | .g6 => 10

/-- The voltage channel with an index, if there is one. -/
def Channel.ofIndex : Nat → Option Channel
  | 0 => some .u1
  | 1 => some .u2
  | 2 => some .ba
  | 3 => some .bb
  | 4 => some .gb
  | 5 => some .g1
  | 6 => some .g2
  | 7 => some .g3
  | 8 => some .g4
  | 9 => some .g5
  | 10 => some .g6
  | _ => none

/-- One entry for each voltage channel. -/
structure PerChannel (α : Type) where
  u1 : α
  u2 : α
  ba : α
  bb : α
  gb : α
  g1 : α
  g2 : α
  g3 : α
  g4 : α
  g5 : α
  g6 : α
  deriving DecidableEq, Repr, Inhabited

/-- The entry of one voltage channel. -/
def PerChannel.get {α : Type} (t : PerChannel α) : Channel → α
  | .u1 => t.u1
  | .u2 => t.u2
  | .ba => t.ba
  | .bb => t.bb
  | .gb => t.gb
  | .g1 => t.g1
  | .g2 => t.g2
  | .g3 => t.g3
  | .g4 => t.g4
  | .g5 => t.g5
  | .g6 => t.g6

/-- The table with the entry of one voltage channel replaced. -/
def PerChannel.set {α : Type} (t : PerChannel α) (i : Channel) (v : α) : PerChannel α :=
  match i with
  | .u1 => { t with u1 := v }
  | .u2 => { t with u2 := v }
  | .ba => { t with ba := v }
  | .bb => { t with bb := v }
  | .gb => { t with gb := v }
  | .g1 => { t with g1 := v }
  | .g2 => { t with g2 := v }
  | .g3 => { t with g3 := v }
  | .g4 => { t with g4 := v }
  | .g5 => { t with g5 := v }
  | .g6 => { t with g6 := v }

/-- The table whose entry for each voltage channel is given by a rule. -/
def PerChannel.ofFn {α : Type} (f : Channel → α) : PerChannel α :=
  { u1 := f .u1, u2 := f .u2, ba := f .ba, bb := f .bb, gb := f .gb, g1 := f .g1, g2 := f .g2, g3 := f .g3, g4 := f .g4, g5 := f .g5, g6 := f .g6 }

/-- The table with one entry changed by a rule. -/
def PerChannel.modify {α : Type} (t : PerChannel α) (i : Channel) (f : α → α) : PerChannel α :=
  t.set i (f (t.get i))

/-- The entries in index order. -/
def PerChannel.toList {α : Type} (t : PerChannel α) : List α :=
  [t.u1, t.u2, t.ba, t.bb, t.gb, t.g1, t.g2, t.g3, t.g4, t.g5, t.g6]

/-- Every utility, in index order. -/
def Utility.all : List Utility :=
  [.u1, .u2]

/-- The index of a utility. -/
def Utility.index : Utility → Nat
  | .u1 => 0
  | .u2 => 1

/-- The utility with an index, if there is one. -/
def Utility.ofIndex : Nat → Option Utility
  | 0 => some .u1
  | 1 => some .u2
  | _ => none

/-- One entry for each utility. -/
structure PerUtility (α : Type) where
  u1 : α
  u2 : α
  deriving DecidableEq, Repr, Inhabited

/-- The entry of one utility. -/
def PerUtility.get {α : Type} (t : PerUtility α) : Utility → α
  | .u1 => t.u1
  | .u2 => t.u2

/-- The table with the entry of one utility replaced. -/
def PerUtility.set {α : Type} (t : PerUtility α) (i : Utility) (v : α) : PerUtility α :=
  match i with
  | .u1 => { t with u1 := v }
  | .u2 => { t with u2 := v }

/-- The table whose entry for each utility is given by a rule. -/
def PerUtility.ofFn {α : Type} (f : Utility → α) : PerUtility α :=
  { u1 := f .u1, u2 := f .u2 }

/-- The table with one entry changed by a rule. -/
def PerUtility.modify {α : Type} (t : PerUtility α) (i : Utility) (f : α → α) : PerUtility α :=
  t.set i (f (t.get i))

/-- The entries in index order. -/
def PerUtility.toList {α : Type} (t : PerUtility α) : List α :=
  [t.u1, t.u2]

/-- Every load bus, in index order. -/
def Bus.all : List Bus :=
  [.ba, .bb]

/-- The index of a load bus. -/
def Bus.index : Bus → Nat
  | .ba => 0
  | .bb => 1

/-- The load bus with an index, if there is one. -/
def Bus.ofIndex : Nat → Option Bus
  | 0 => some .ba
  | 1 => some .bb
  | _ => none

/-- One entry for each load bus. -/
structure PerBus (α : Type) where
  ba : α
  bb : α
  deriving DecidableEq, Repr, Inhabited

/-- The entry of one load bus. -/
def PerBus.get {α : Type} (t : PerBus α) : Bus → α
  | .ba => t.ba
  | .bb => t.bb

/-- The table with the entry of one load bus replaced. -/
def PerBus.set {α : Type} (t : PerBus α) (i : Bus) (v : α) : PerBus α :=
  match i with
  | .ba => { t with ba := v }
  | .bb => { t with bb := v }

/-- The table whose entry for each load bus is given by a rule. -/
def PerBus.ofFn {α : Type} (f : Bus → α) : PerBus α :=
  { ba := f .ba, bb := f .bb }

/-- The table with one entry changed by a rule. -/
def PerBus.modify {α : Type} (t : PerBus α) (i : Bus) (f : α → α) : PerBus α :=
  t.set i (f (t.get i))

/-- The entries in index order. -/
def PerBus.toList {α : Type} (t : PerBus α) : List α :=
  [t.ba, t.bb]

/-- Every bus with a claim, in index order. -/
def ClaimBus.all : List ClaimBus :=
  [.ba, .bb, .gb]

/-- The index of a bus with a claim. -/
def ClaimBus.index : ClaimBus → Nat
  | .ba => 0
  | .bb => 1
  | .gb => 2

/-- The bus with a claim with an index, if there is one. -/
def ClaimBus.ofIndex : Nat → Option ClaimBus
  | 0 => some .ba
  | 1 => some .bb
  | 2 => some .gb
  | _ => none

/-- One entry for each bus with a claim. -/
structure PerClaimBus (α : Type) where
  ba : α
  bb : α
  gb : α
  deriving DecidableEq, Repr, Inhabited

/-- The entry of one bus with a claim. -/
def PerClaimBus.get {α : Type} (t : PerClaimBus α) : ClaimBus → α
  | .ba => t.ba
  | .bb => t.bb
  | .gb => t.gb

/-- The table with the entry of one bus with a claim replaced. -/
def PerClaimBus.set {α : Type} (t : PerClaimBus α) (i : ClaimBus) (v : α) : PerClaimBus α :=
  match i with
  | .ba => { t with ba := v }
  | .bb => { t with bb := v }
  | .gb => { t with gb := v }

/-- The table whose entry for each bus with a claim is given by a rule. -/
def PerClaimBus.ofFn {α : Type} (f : ClaimBus → α) : PerClaimBus α :=
  { ba := f .ba, bb := f .bb, gb := f .gb }

/-- The table with one entry changed by a rule. -/
def PerClaimBus.modify {α : Type} (t : PerClaimBus α) (i : ClaimBus) (f : α → α) : PerClaimBus α :=
  t.set i (f (t.get i))

/-- The entries in index order. -/
def PerClaimBus.toList {α : Type} (t : PerClaimBus α) : List α :=
  [t.ba, t.bb, t.gb]

/-- Every generator slot, in index order. -/
def Slot.all : List Slot :=
  [.s1, .s2, .s3, .s4, .s5, .s6]

/-- The index of a generator slot. -/
def Slot.index : Slot → Nat
  | .s1 => 0
  | .s2 => 1
  | .s3 => 2
  | .s4 => 3
  | .s5 => 4
  | .s6 => 5

/-- The generator slot with an index, if there is one. -/
def Slot.ofIndex : Nat → Option Slot
  | 0 => some .s1
  | 1 => some .s2
  | 2 => some .s3
  | 3 => some .s4
  | 4 => some .s5
  | 5 => some .s6
  | _ => none

/-- One entry for each generator slot. -/
structure PerSlot (α : Type) where
  s1 : α
  s2 : α
  s3 : α
  s4 : α
  s5 : α
  s6 : α
  deriving DecidableEq, Repr, Inhabited

/-- The entry of one generator slot. -/
def PerSlot.get {α : Type} (t : PerSlot α) : Slot → α
  | .s1 => t.s1
  | .s2 => t.s2
  | .s3 => t.s3
  | .s4 => t.s4
  | .s5 => t.s5
  | .s6 => t.s6

/-- The table with the entry of one generator slot replaced. -/
def PerSlot.set {α : Type} (t : PerSlot α) (i : Slot) (v : α) : PerSlot α :=
  match i with
  | .s1 => { t with s1 := v }
  | .s2 => { t with s2 := v }
  | .s3 => { t with s3 := v }
  | .s4 => { t with s4 := v }
  | .s5 => { t with s5 := v }
  | .s6 => { t with s6 := v }

/-- The table whose entry for each generator slot is given by a rule. -/
def PerSlot.ofFn {α : Type} (f : Slot → α) : PerSlot α :=
  { s1 := f .s1, s2 := f .s2, s3 := f .s3, s4 := f .s4, s5 := f .s5, s6 := f .s6 }

/-- The table with one entry changed by a rule. -/
def PerSlot.modify {α : Type} (t : PerSlot α) (i : Slot) (f : α → α) : PerSlot α :=
  t.set i (f (t.get i))

/-- The entries in index order. -/
def PerSlot.toList {α : Type} (t : PerSlot α) : List α :=
  [t.s1, t.s2, t.s3, t.s4, t.s5, t.s6]

/-- Every load block, in index order. -/
def Block.all : List Block :=
  [.f1, .f2, .f3, .f4, .f5, .f6, .f7, .f8]

/-- The index of a load block. -/
def Block.index : Block → Nat
  | .f1 => 0
  | .f2 => 1
  | .f3 => 2
  | .f4 => 3
  | .f5 => 4
  | .f6 => 5
  | .f7 => 6
  | .f8 => 7

/-- The load block with an index, if there is one. -/
def Block.ofIndex : Nat → Option Block
  | 0 => some .f1
  | 1 => some .f2
  | 2 => some .f3
  | 3 => some .f4
  | 4 => some .f5
  | 5 => some .f6
  | 6 => some .f7
  | 7 => some .f8
  | _ => none

/-- One entry for each load block. -/
structure PerBlock (α : Type) where
  f1 : α
  f2 : α
  f3 : α
  f4 : α
  f5 : α
  f6 : α
  f7 : α
  f8 : α
  deriving DecidableEq, Repr, Inhabited

/-- The entry of one load block. -/
def PerBlock.get {α : Type} (t : PerBlock α) : Block → α
  | .f1 => t.f1
  | .f2 => t.f2
  | .f3 => t.f3
  | .f4 => t.f4
  | .f5 => t.f5
  | .f6 => t.f6
  | .f7 => t.f7
  | .f8 => t.f8

/-- The table with the entry of one load block replaced. -/
def PerBlock.set {α : Type} (t : PerBlock α) (i : Block) (v : α) : PerBlock α :=
  match i with
  | .f1 => { t with f1 := v }
  | .f2 => { t with f2 := v }
  | .f3 => { t with f3 := v }
  | .f4 => { t with f4 := v }
  | .f5 => { t with f5 := v }
  | .f6 => { t with f6 := v }
  | .f7 => { t with f7 := v }
  | .f8 => { t with f8 := v }

/-- The table whose entry for each load block is given by a rule. -/
def PerBlock.ofFn {α : Type} (f : Block → α) : PerBlock α :=
  { f1 := f .f1, f2 := f .f2, f3 := f .f3, f4 := f .f4, f5 := f .f5, f6 := f .f6, f7 := f .f7, f8 := f .f8 }

/-- The table with one entry changed by a rule. -/
def PerBlock.modify {α : Type} (t : PerBlock α) (i : Block) (f : α → α) : PerBlock α :=
  t.set i (f (t.get i))

/-- The entries in index order. -/
def PerBlock.toList {α : Type} (t : PerBlock α) : List α :=
  [t.f1, t.f2, t.f3, t.f4, t.f5, t.f6, t.f7, t.f8]

/-- Every coordination port, in index order. -/
def Port.all : List Port :=
  [.cpA, .cpB, .cpP]

/-- The index of a coordination port. -/
def Port.index : Port → Nat
  | .cpA => 0
  | .cpB => 1
  | .cpP => 2

/-- The coordination port with an index, if there is one. -/
def Port.ofIndex : Nat → Option Port
  | 0 => some .cpA
  | 1 => some .cpB
  | 2 => some .cpP
  | _ => none

/-- One entry for each coordination port. -/
structure PerPort (α : Type) where
  cpA : α
  cpB : α
  cpP : α
  deriving DecidableEq, Repr, Inhabited

/-- The entry of one coordination port. -/
def PerPort.get {α : Type} (t : PerPort α) : Port → α
  | .cpA => t.cpA
  | .cpB => t.cpB
  | .cpP => t.cpP

/-- The table with the entry of one coordination port replaced. -/
def PerPort.set {α : Type} (t : PerPort α) (i : Port) (v : α) : PerPort α :=
  match i with
  | .cpA => { t with cpA := v }
  | .cpB => { t with cpB := v }
  | .cpP => { t with cpP := v }

/-- The table whose entry for each coordination port is given by a rule. -/
def PerPort.ofFn {α : Type} (f : Port → α) : PerPort α :=
  { cpA := f .cpA, cpB := f .cpB, cpP := f .cpP }

/-- The table with one entry changed by a rule. -/
def PerPort.modify {α : Type} (t : PerPort α) (i : Port) (f : α → α) : PerPort α :=
  t.set i (f (t.get i))

/-- The entries in index order. -/
def PerPort.toList {α : Type} (t : PerPort α) : List α :=
  [t.cpA, t.cpB, t.cpP]

/-- Every attempt slot, in index order. -/
def AttemptNo.all : List AttemptNo :=
  [.a0, .a1, .a2, .a3, .a4, .a5, .a6, .a7]

/-- The index of a attempt slot. -/
def AttemptNo.index : AttemptNo → Nat
  | .a0 => 0
  | .a1 => 1
  | .a2 => 2
  | .a3 => 3
  | .a4 => 4
  | .a5 => 5
  | .a6 => 6
  | .a7 => 7

/-- The attempt slot with an index, if there is one. -/
def AttemptNo.ofIndex : Nat → Option AttemptNo
  | 0 => some .a0
  | 1 => some .a1
  | 2 => some .a2
  | 3 => some .a3
  | 4 => some .a4
  | 5 => some .a5
  | 6 => some .a6
  | 7 => some .a7
  | _ => none

/-- One entry for each attempt slot. -/
structure PerAttempt (α : Type) where
  a0 : α
  a1 : α
  a2 : α
  a3 : α
  a4 : α
  a5 : α
  a6 : α
  a7 : α
  deriving DecidableEq, Repr, Inhabited

/-- The entry of one attempt slot. -/
def PerAttempt.get {α : Type} (t : PerAttempt α) : AttemptNo → α
  | .a0 => t.a0
  | .a1 => t.a1
  | .a2 => t.a2
  | .a3 => t.a3
  | .a4 => t.a4
  | .a5 => t.a5
  | .a6 => t.a6
  | .a7 => t.a7

/-- The table with the entry of one attempt slot replaced. -/
def PerAttempt.set {α : Type} (t : PerAttempt α) (i : AttemptNo) (v : α) : PerAttempt α :=
  match i with
  | .a0 => { t with a0 := v }
  | .a1 => { t with a1 := v }
  | .a2 => { t with a2 := v }
  | .a3 => { t with a3 := v }
  | .a4 => { t with a4 := v }
  | .a5 => { t with a5 := v }
  | .a6 => { t with a6 := v }
  | .a7 => { t with a7 := v }

/-- The table whose entry for each attempt slot is given by a rule. -/
def PerAttempt.ofFn {α : Type} (f : AttemptNo → α) : PerAttempt α :=
  { a0 := f .a0, a1 := f .a1, a2 := f .a2, a3 := f .a3, a4 := f .a4, a5 := f .a5, a6 := f .a6, a7 := f .a7 }

/-- The table with one entry changed by a rule. -/
def PerAttempt.modify {α : Type} (t : PerAttempt α) (i : AttemptNo) (f : α → α) : PerAttempt α :=
  t.set i (f (t.get i))

/-- The entries in index order. -/
def PerAttempt.toList {α : Type} (t : PerAttempt α) : List α :=
  [t.a0, t.a1, t.a2, t.a3, t.a4, t.a5, t.a6, t.a7]

/-- Every key input, in index order. -/
def Key.all : List Key :=
  [.localKey, .settingsKey]

/-- The index of a key input. -/
def Key.index : Key → Nat
  | .localKey => 0
  | .settingsKey => 1

/-- The key input with an index, if there is one. -/
def Key.ofIndex : Nat → Option Key
  | 0 => some .localKey
  | 1 => some .settingsKey
  | _ => none

/-- One entry for each key input. -/
structure PerKey (α : Type) where
  localKey : α
  settingsKey : α
  deriving DecidableEq, Repr, Inhabited

/-- The entry of one key input. -/
def PerKey.get {α : Type} (t : PerKey α) : Key → α
  | .localKey => t.localKey
  | .settingsKey => t.settingsKey

/-- The table with the entry of one key input replaced. -/
def PerKey.set {α : Type} (t : PerKey α) (i : Key) (v : α) : PerKey α :=
  match i with
  | .localKey => { t with localKey := v }
  | .settingsKey => { t with settingsKey := v }

/-- The table whose entry for each key input is given by a rule. -/
def PerKey.ofFn {α : Type} (f : Key → α) : PerKey α :=
  { localKey := f .localKey, settingsKey := f .settingsKey }

/-- The table with one entry changed by a rule. -/
def PerKey.modify {α : Type} (t : PerKey α) (i : Key) (f : α → α) : PerKey α :=
  t.set i (f (t.get i))

/-- The entries in index order. -/
def PerKey.toList {α : Type} (t : PerKey α) : List α :=
  [t.localKey, t.settingsKey]

/-- Every underfrequency stage, in index order. -/
def UfStage.all : List UfStage :=
  [.stage1, .stage2]

/-- The index of a underfrequency stage. -/
def UfStage.index : UfStage → Nat
  | .stage1 => 0
  | .stage2 => 1

/-- The underfrequency stage with an index, if there is one. -/
def UfStage.ofIndex : Nat → Option UfStage
  | 0 => some .stage1
  | 1 => some .stage2
  | _ => none

/-- One entry for each underfrequency stage. -/
structure PerUfStage (α : Type) where
  stage1 : α
  stage2 : α
  deriving DecidableEq, Repr, Inhabited

/-- The entry of one underfrequency stage. -/
def PerUfStage.get {α : Type} (t : PerUfStage α) : UfStage → α
  | .stage1 => t.stage1
  | .stage2 => t.stage2

/-- The table with the entry of one underfrequency stage replaced. -/
def PerUfStage.set {α : Type} (t : PerUfStage α) (i : UfStage) (v : α) : PerUfStage α :=
  match i with
  | .stage1 => { t with stage1 := v }
  | .stage2 => { t with stage2 := v }

/-- The table whose entry for each underfrequency stage is given by a rule. -/
def PerUfStage.ofFn {α : Type} (f : UfStage → α) : PerUfStage α :=
  { stage1 := f .stage1, stage2 := f .stage2 }

/-- The table with one entry changed by a rule. -/
def PerUfStage.modify {α : Type} (t : PerUfStage α) (i : UfStage) (f : α → α) : PerUfStage α :=
  t.set i (f (t.get i))

/-- The entries in index order. -/
def PerUfStage.toList {α : Type} (t : PerUfStage α) : List α :=
  [t.stage1, t.stage2]

/-- The setting groups, by number. -/
inductive GroupNo where
  | n0 | n1 | n2 | n3
  deriving DecidableEq, Repr, Inhabited

/-- Every setting group, in index order. -/
def GroupNo.all : List GroupNo :=
  [.n0, .n1, .n2, .n3]

/-- The number of a setting group. -/
def GroupNo.index : GroupNo → Nat
  | .n0 => 0
  | .n1 => 1
  | .n2 => 2
  | .n3 => 3

/-- The setting group with a number, if there is one. -/
def GroupNo.ofIndex : Nat → Option GroupNo
  | 0 => some .n0
  | 1 => some .n1
  | 2 => some .n2
  | 3 => some .n3
  | _ => none

/-- One entry for each setting group. -/
structure PerGroup (α : Type) where
  n0 : α
  n1 : α
  n2 : α
  n3 : α
  deriving DecidableEq, Repr, Inhabited

/-- The entry of one setting group. -/
def PerGroup.get {α : Type} (t : PerGroup α) : GroupNo → α
  | .n0 => t.n0
  | .n1 => t.n1
  | .n2 => t.n2
  | .n3 => t.n3

/-- The table with the entry of one setting group replaced. -/
def PerGroup.set {α : Type} (t : PerGroup α) (i : GroupNo) (v : α) : PerGroup α :=
  match i with
  | .n0 => { t with n0 := v }
  | .n1 => { t with n1 := v }
  | .n2 => { t with n2 := v }
  | .n3 => { t with n3 := v }

/-- The table whose entry for each setting group is given by a rule. -/
def PerGroup.ofFn {α : Type} (f : GroupNo → α) : PerGroup α :=
  { n0 := f .n0, n1 := f .n1, n2 := f .n2, n3 := f .n3 }

/-- The table with one entry changed by a rule. -/
def PerGroup.modify {α : Type} (t : PerGroup α) (i : GroupNo) (f : α → α) : PerGroup α :=
  t.set i (f (t.get i))

/-- The curve tables, by number. -/
inductive CurveNo where
  | c0 | c1 | c2 | c3
  deriving DecidableEq, Repr, Inhabited

/-- Every curve table, in index order. -/
def CurveNo.all : List CurveNo :=
  [.c0, .c1, .c2, .c3]

/-- The number of a curve table. -/
def CurveNo.index : CurveNo → Nat
  | .c0 => 0
  | .c1 => 1
  | .c2 => 2
  | .c3 => 3

/-- The curve table with a number, if there is one. -/
def CurveNo.ofIndex : Nat → Option CurveNo
  | 0 => some .c0
  | 1 => some .c1
  | 2 => some .c2
  | 3 => some .c3
  | _ => none

/-- One entry for each curve table. -/
structure PerCurve (α : Type) where
  c0 : α
  c1 : α
  c2 : α
  c3 : α
  deriving DecidableEq, Repr, Inhabited

/-- The entry of one curve table. -/
def PerCurve.get {α : Type} (t : PerCurve α) : CurveNo → α
  | .c0 => t.c0
  | .c1 => t.c1
  | .c2 => t.c2
  | .c3 => t.c3

/-- The table with the entry of one curve table replaced. -/
def PerCurve.set {α : Type} (t : PerCurve α) (i : CurveNo) (v : α) : PerCurve α :=
  match i with
  | .c0 => { t with c0 := v }
  | .c1 => { t with c1 := v }
  | .c2 => { t with c2 := v }
  | .c3 => { t with c3 := v }

/-- The table whose entry for each curve table is given by a rule. -/
def PerCurve.ofFn {α : Type} (f : CurveNo → α) : PerCurve α :=
  { c0 := f .c0, c1 := f .c1, c2 := f .c2, c3 := f .c3 }

/-- The table with one entry changed by a rule. -/
def PerCurve.modify {α : Type} (t : PerCurve α) (i : CurveNo) (f : α → α) : PerCurve α :=
  t.set i (f (t.get i))

end Sys2Proof
end

