-- ==== Sys2Proof/Machine/Names.lean ====
section
/-! DEFINITION. The names the part keeps in records, events and responses, and their codes (spec/11, Table 11-3 and R183). -/

namespace Sys2Proof.Machine

/-- A cause name of Table 11-3. The same names serve for causes of operations, lockout causes, results of attempts and
transfers, fault causes, failing conditions and reasons held in records. `oldGroup` is the cause byte of GROUP_CHANGED,
which carries the old group number in place of a name. -/
inductive Cause where
  | none | inBand | outOfBand | delayExpired | stableExpired | noSignal | outOfWindow | operator | test | transfer
  | generator | load | overcurrent | instantaneous | reversePower | backup | overlapExceeded | uncommanded
  | noMovement | stuckTravel | contactInvalid | breakerFailure | backupFailed | success | timeout | closeFailed
  | cancelled | preempted | sequenceReset | completed | failed | cut | refused | lapsed | withdrawn | busLive | loss
  | returnToUtility | recover | request | done | noSource | resourceBusy | retiringFailed | arrivingFailed
  | targetLost | supplyChanged | syncTimeout | protectionTrip | operatorOpen | plan | port | ready | grant | busDead
  | adopted | stop | released | unloaded | unloadTimeout | cooldownExpired | resetSlot | setting | service
  | startTimeout | closeRefused | readyLost | uncommandedOpen | tripped | openFailed | preShed | overload
  | capacityLoss | underfrequency1 | underfrequency2 | auto | restoreFailed | takeover | release | localKey
  | settingsKey | keyReleased | curve | group | lockout | defaults | notTracking | undervoltage | overvoltage
  | underfrequency | overfrequency | stale | captureOrder | notLive | slip | slipSign | angle | voltageDifference
  | gen | protection | overlap
  | oldGroup (n : Nat)
  deriving DecidableEq, Repr, Inhabited

/-- The code of a cause (Table 11-3). -/
def Cause.code : Cause → Nat
  | .none => 0
  | .inBand => 1
  | .outOfBand => 2
  | .delayExpired => 3
  | .stableExpired => 4
  | .noSignal => 5
  | .outOfWindow => 6
  | .operator => 16
  | .test => 17
  | .transfer => 18
  | .generator => 19
  | .load => 20
  | .overcurrent => 21
  | .instantaneous => 22
  | .reversePower => 23
  | .backup => 24
  | .overlapExceeded => 25
  | .uncommanded => 26
  | .noMovement => 32
  | .stuckTravel => 33
  | .contactInvalid => 34
  | .breakerFailure => 35
  | .backupFailed => 36
  | .success => 40
  | .timeout => 41
  | .closeFailed => 42
  | .cancelled => 43
  | .preempted => 44
  | .sequenceReset => 45
  | .completed => 48
  | .failed => 49
  | .cut => 50
  | .refused => 51
  | .lapsed => 52
  | .withdrawn => 53
  | .busLive => 54
  | .loss => 64
  | .returnToUtility => 65
  | .recover => 66
  | .request => 67
  | .done => 68
  | .noSource => 69
  | .resourceBusy => 70
  | .retiringFailed => 71
  | .arrivingFailed => 72
  | .targetLost => 73
  | .supplyChanged => 74
  | .syncTimeout => 75
  | .protectionTrip => 76
  | .operatorOpen => 77
  | .plan => 96
  | .port => 97
  | .ready => 98
  | .grant => 99
  | .busDead => 100
  | .adopted => 101
  | .stop => 102
  | .released => 103
  | .unloaded => 104
  | .unloadTimeout => 105
  | .cooldownExpired => 106
  | .resetSlot => 107
  | .setting => 108
  | .service => 109
  | .startTimeout => 110
  | .closeRefused => 111
  | .readyLost => 112
  | .uncommandedOpen => 113
  | .tripped => 114
  | .openFailed => 115
  | .preShed => 128
  | .overload => 129
  | .capacityLoss => 130
  | .underfrequency1 => 131
  | .underfrequency2 => 132
  | .auto => 133
  | .restoreFailed => 134
  | .takeover => 144
  | .release => 145
  | .localKey => 146
  | .settingsKey => 147
  | .keyReleased => 148
  | .curve => 149
  | .group => 150
  | .lockout => 151
  | .defaults => 152
  | .notTracking => 160
  | .undervoltage => 161
  | .overvoltage => 162
  | .underfrequency => 163
  | .overfrequency => 164
  | .stale => 165
  | .captureOrder => 166
  | .notLive => 167
  | .slip => 168
  | .slipSign => 169
  | .angle => 170
  | .voltageDifference => 171
  | .gen => 176
  | .protection => 177
  | .overlap => 178
  | .oldGroup n => n

/-- The kinds of event, in the order of Table 11-3. -/
inductive EventKind where
  | deviceReset | breakerClosed | breakerOpened | operationFailed | operationCut | uncommandedChange
  | contactInvalid | protectionTrip | backupTrip | backupFailed | lockoutSet | lockoutReset | channelTracking
  | channelLost | measurementStale | measurementFresh | sourceState | syncResult | claimGranted | claimEnded
  | overlapExceeded | transferStage | transferResult | slotState | blockShed | blockRestored | roleChange
  | livenessLapse | settingChanged | groupChanged | storeFault | storeDefaulted | holdEntered | holdLeft
  | sequenceReset
  deriving DecidableEq, Repr, Inhabited

/-- The code of an event kind, 1 to 35 (Table 11-3). -/
def EventKind.code : EventKind → Nat
  | .deviceReset => 1
  | .breakerClosed => 2
  | .breakerOpened => 3
  | .operationFailed => 4
  | .operationCut => 5
  | .uncommandedChange => 6
  | .contactInvalid => 7
  | .protectionTrip => 8
  | .backupTrip => 9
  | .backupFailed => 10
  | .lockoutSet => 11
  | .lockoutReset => 12
  | .channelTracking => 13
  | .channelLost => 14
  | .measurementStale => 15
  | .measurementFresh => 16
  | .sourceState => 17
  | .syncResult => 18
  | .claimGranted => 19
  | .claimEnded => 20
  | .overlapExceeded => 21
  | .transferStage => 22
  | .transferResult => 23
  | .slotState => 24
  | .blockShed => 25
  | .blockRestored => 26
  | .roleChange => 27
  | .livenessLapse => 28
  | .settingChanged => 29
  | .groupChanged => 30
  | .storeFault => 31
  | .storeDefaulted => 32
  | .holdEntered => 33
  | .holdLeft => 34
  | .sequenceReset => 35

/-- The refusal reasons, in the order in which R162 lists them. -/
inductive Reason where
  | authority | localControl | accessClass | busy | reserved | lockout | closeBlocked | outOfService | stale
  | voltageIndeterminate | busNotLive | backfeed | deadDead | parallelNotPermitted | noAttemptSlot | lastSource
  | shedActive | causePresent | range | inconsistent | storeBusy | hold | notReady
  deriving DecidableEq, Repr, Inhabited

/-- The code of a refusal reason, 1 to 23 (R183). -/
def Reason.code : Reason → Nat
  | .authority => 1
  | .localControl => 2
  | .accessClass => 3
  | .busy => 4
  | .reserved => 5
  | .lockout => 6
  | .closeBlocked => 7
  | .outOfService => 8
  | .stale => 9
  | .voltageIndeterminate => 10
  | .busNotLive => 11
  | .backfeed => 12
  | .deadDead => 13
  | .parallelNotPermitted => 14
  | .noAttemptSlot => 15
  | .lastSource => 16
  | .shedActive => 17
  | .causePresent => 18
  | .range => 19
  | .inconsistent => 20
  | .storeBusy => 21
  | .hold => 22
  | .notReady => 23

/-- The answer of a request: R162's statuses, a refusal carrying its reason. -/
inductive Status where
  | done | accepted | clamped | refused (r : Reason) | badCheck | badRequest
  deriving DecidableEq, Repr, Inhabited

/-- The code of a status (R183). -/
def Status.code : Status → Nat
  | .done => 0
  | .accepted => 1
  | .clamped => 2
  | .refused _ => 3
  | .badCheck => 4
  | .badRequest => 5

/-- The reason byte of a response: NONE 0 for every status but REFUSED (R162, R183). -/
def Status.reasonCode : Status → Nat
  | .refused r => r.code
  | _ => 0

end Sys2Proof.Machine
end

