-- ==== Sys2Proof/Machine/Settings.lean ====
section
/-! DEFINITION. The settings: the items of Tables 10-1 and 10-2 with their codes, ranges and defaults, the curve tables,
and everything else the settings store holds in its two copies (spec/10, R174, R175, R178; spec/08, R148). -/

namespace Sys2Proof

/-- The common items (Table 10-1), each with one working value or one per unit. -/
structure Machine.CommonSettings where
  /-- Qualification time Q, µs. -/
  qualTime : Nat
  /-- Live threshold. -/
  liveThreshold : Nat
  /-- Dead threshold. -/
  deadThreshold : Nat
  /-- Operate time limit, ms. -/
  operateLimit : PerBreaker Nat
  /-- Closing time tc, ms. -/
  closingTime : PerBreaker Nat
  /-- Contact settle time, ms. -/
  settleTime : Nat
  /-- Positive-slip-only: yes for G1 to G6, no for the others. -/
  positiveSlipOnly : PerBreaker Bool
  /-- Dead-dead close permitted. -/
  deadDead : PerBreaker Bool
  /-- Utility parallel permitted. -/
  utilityParallel : Bool
  /-- Overlap limit, ms. -/
  overlapLimit : Nat
  /-- Auto-transfer enabled. -/
  autoTransfer : PerBus Bool
  /-- Auto-retransfer enabled. -/
  autoRetransfer : PerBus Bool
  /-- Tie transfer permitted. -/
  tiePermitted : PerBus Bool
  /-- Closed transition permitted. -/
  closedTransition : Bool
  /-- Dead time, ms. -/
  deadTime : Nat
  /-- Residual threshold. -/
  residualThreshold : Nat
  /-- Generator wait limit, s. -/
  generatorWait : Nat
  /-- Slot enabled. -/
  slotEnabled : PerSlot Bool
  /-- Rating, kW. -/
  rating : PerSlot Nat
  /-- Start order: the position of each slot. -/
  startOrder : PerSlot Nat
  /-- Start timer, s. -/
  startTime : Nat
  /-- Unload step, tenths of percent. -/
  unloadStep : Nat
  /-- Unload percentage, %. -/
  unloadPercent : Nat
  /-- Unload limit, s. -/
  unloadLimit : Nat
  /-- Cooldown time, s. -/
  cooldownTime : Nat
  /-- Dmin. -/
  dmin : Nat
  /-- Dmax. -/
  dmax : Nat
  /-- Bias period, µs. -/
  biasPeriod : Nat
  /-- Shed priority: the priority number of each block. -/
  shedPriority : PerBlock Nat
  /-- Estimate, kW. -/
  estimate : PerBlock Nat
  /-- Auto-restore enabled. -/
  autoRestore : PerBlock Bool
  /-- Pre-shed ratio, permille. -/
  preShedRatio : Nat
  /-- Restore margin, kW. -/
  restoreMargin : Nat
  /-- Restore interval, s. -/
  restoreInterval : Nat
  /-- Remote settings permitted. -/
  remoteSettings : Bool
  /-- Lapse time, ms. -/
  lapseTime : Nat
  deriving DecidableEq, Repr, Inhabited

/-- The group items (Table 10-2): one copy for each of the four setting groups. -/
structure Machine.GroupSettings where
  /-- UF pickup, mHz. -/
  ufPickup : Nat
  /-- OF pickup, mHz. -/
  ofPickup : Nat
  /-- UV pickup. -/
  uvPickup : Nat
  /-- OV pickup. -/
  ovPickup : Nat
  /-- Loss delay, ms. -/
  lossDelay : Nat
  /-- Return stable time, s. -/
  returnStable : Nat
  /-- Sync time limit, s. -/
  syncLimit : Nat
  /-- Slip limit, mHz. -/
  slipLimit : Nat
  /-- Angle window, cdeg. -/
  angleWindow : Nat
  /-- Voltage-difference limit. -/
  voltageDiff : Nat
  /-- Dwell, edges. -/
  dwell : Nat
  /-- Target slip, mHz. -/
  targetSlip : Nat
  /-- Bias gain G. -/
  biasGain : Nat
  /-- Overload ratio, permille. -/
  overloadRatio : Nat
  /-- Overload delay, s. -/
  overloadDelay : Nat
  /-- UF stage 1 threshold, mHz. -/
  uf1Threshold : Nat
  /-- UF stage 1 delay, ms. -/
  uf1Delay : Nat
  /-- UF stage 2 threshold, mHz. -/
  uf2Threshold : Nat
  /-- UF stage 2 delay, ms. -/
  uf2Delay : Nat
  /-- Restore frequency, mHz. -/
  restoreFrequency : Nat
  /-- Pickup P, A: 0 (disabled), or 10 to 20000. -/
  pickup : PerBreaker Nat
  /-- Curve. -/
  curve : PerBreaker Nat
  /-- Time multiplier TM, hundredths. -/
  timeMultiplier : PerBreaker Nat
  /-- Reset time, ms. -/
  resetTime : PerBreaker Nat
  /-- Instantaneous threshold: 0 (disabled), or 32 to 1600. -/
  instThreshold : PerBreaker Nat
  /-- Lockout on trip. -/
  lockoutOnTrip : PerBreaker Bool
  /-- Reverse-power threshold, % of rating. -/
  reverseThreshold : Nat
  /-- Reverse-power delay, ms. -/
  reverseDelay : Nat
  /-- Breaker-failure time, ms. -/
  failureTime : Nat
  /-- Failure current threshold, A. -/
  failureCurrent : Nat
  deriving DecidableEq, Repr, Inhabited

namespace Machine

/-- The defaults of Table 10-1. -/
def defaultCommon : CommonSettings where
  qualTime := 20
  liveThreshold := 8000
  deadThreshold := 2000
  operateLimit := .ofFn fun _ => 300
  closingTime := .ofFn fun _ => 80
  settleTime := 4
  positiveSlipOnly := .ofFn fun b => 5 ≤ b.index && b.index ≤ 10
  deadDead := .ofFn fun _ => false
  utilityParallel := false
  overlapLimit := 100
  autoTransfer := .ofFn fun _ => true
  autoRetransfer := .ofFn fun _ => true
  tiePermitted := .ofFn fun _ => false
  closedTransition := true
  deadTime := 500
  residualThreshold := 2500
  generatorWait := 30
  slotEnabled := .ofFn fun _ => true
  rating := .ofFn fun _ => 2000
  startOrder := .ofFn fun n => n.index + 1
  startTime := 15
  unloadStep := 10
  unloadPercent := 5
  unloadLimit := 60
  cooldownTime := 300
  dmin := 100
  dmax := 900
  biasPeriod := 2000
  shedPriority := .ofFn fun f => f.index + 1
  estimate := .ofFn fun _ => 1000
  autoRestore := .ofFn fun _ => true
  preShedRatio := 1000
  restoreMargin := 200
  restoreInterval := 10
  remoteSettings := false
  lapseTime := 1000

/-- The defaults of Table 10-2, the same in all four groups. -/
def defaultGroup : GroupSettings where
  ufPickup := 58800
  ofPickup := 61200
  uvPickup := 9000
  ovPickup := 11000
  lossDelay := 500
  returnStable := 300
  syncLimit := 60
  slipLimit := 150
  angleWindow := 1000
  voltageDiff := 500
  dwell := 3
  targetSlip := 100
  biasGain := 500
  overloadRatio := 1000
  overloadDelay := 5
  uf1Threshold := 58500
  uf1Delay := 300
  uf2Threshold := 57500
  uf2Delay := 100
  restoreFrequency := 59700
  pickup := .ofFn fun _ => 0
  curve := .ofFn fun _ => 1
  timeMultiplier := .ofFn fun _ => 100
  resetTime := .ofFn fun _ => 0
  instThreshold := .ofFn fun _ => 0
  lockoutOnTrip := .ofFn fun _ => true
  reverseThreshold := 5
  reverseDelay := 2000
  failureTime := 150
  failureCurrent := 200

/-- A setting item. -/
inductive Item where
  | qualTime | liveThreshold | deadThreshold | operateLimit | closingTime | settleTime | positiveSlipOnly | deadDead
  | utilityParallel | overlapLimit | autoTransfer | autoRetransfer | tiePermitted | closedTransition | deadTime
  | residualThreshold | generatorWait | slotEnabled | rating | startOrder | startTime | unloadStep | unloadPercent
  | unloadLimit | cooldownTime | dmin | dmax | biasPeriod | shedPriority | estimate | autoRestore | preShedRatio
  | restoreMargin | restoreInterval | remoteSettings | lapseTime | ufPickup | ofPickup | uvPickup | ovPickup
  | lossDelay | returnStable | syncLimit | slipLimit | angleWindow | voltageDiff | dwell | targetSlip | biasGain
  | overloadRatio | overloadDelay | uf1Threshold | uf1Delay | uf2Threshold | uf2Delay | restoreFrequency | pickup
  | curve | timeMultiplier | resetTime | instThreshold | lockoutOnTrip | reverseThreshold | reverseDelay
  | failureTime | failureCurrent
  deriving DecidableEq, Repr, Inhabited

/-- The item codes: Table 10-1 from 1, Table 10-2 from 64, in row order (spec/11, after Table 11-1). -/
def Item.code : Item → Nat
  | .qualTime => 1
  | .liveThreshold => 2
  | .deadThreshold => 3
  | .operateLimit => 4
  | .closingTime => 5
  | .settleTime => 6
  | .positiveSlipOnly => 7
  | .deadDead => 8
  | .utilityParallel => 9
  | .overlapLimit => 10
  | .autoTransfer => 11
  | .autoRetransfer => 12
  | .tiePermitted => 13
  | .closedTransition => 14
  | .deadTime => 15
  | .residualThreshold => 16
  | .generatorWait => 17
  | .slotEnabled => 18
  | .rating => 19
  | .startOrder => 20
  | .startTime => 21
  | .unloadStep => 22
  | .unloadPercent => 23
  | .unloadLimit => 24
  | .cooldownTime => 25
  | .dmin => 26
  | .dmax => 27
  | .biasPeriod => 28
  | .shedPriority => 29
  | .estimate => 30
  | .autoRestore => 31
  | .preShedRatio => 32
  | .restoreMargin => 33
  | .restoreInterval => 34
  | .remoteSettings => 35
  | .lapseTime => 36
  | .ufPickup => 64
  | .ofPickup => 65
  | .uvPickup => 66
  | .ovPickup => 67
  | .lossDelay => 68
  | .returnStable => 69
  | .syncLimit => 70
  | .slipLimit => 71
  | .angleWindow => 72
  | .voltageDiff => 73
  | .dwell => 74
  | .targetSlip => 75
  | .biasGain => 76
  | .overloadRatio => 77
  | .overloadDelay => 78
  | .uf1Threshold => 79
  | .uf1Delay => 80
  | .uf2Threshold => 81
  | .uf2Delay => 82
  | .restoreFrequency => 83
  | .pickup => 84
  | .curve => 85
  | .timeMultiplier => 86
  | .resetTime => 87
  | .instThreshold => 88
  | .lockoutOnTrip => 89
  | .reverseThreshold => 90
  | .reverseDelay => 91
  | .failureTime => 92
  | .failureCurrent => 93

/-- The item with a code, if there is one. -/
def Item.ofCode : Nat → Option Item
  | 1 => some .qualTime
  | 2 => some .liveThreshold
  | 3 => some .deadThreshold
  | 4 => some .operateLimit
  | 5 => some .closingTime
  | 6 => some .settleTime
  | 7 => some .positiveSlipOnly
  | 8 => some .deadDead
  | 9 => some .utilityParallel
  | 10 => some .overlapLimit
  | 11 => some .autoTransfer
  | 12 => some .autoRetransfer
  | 13 => some .tiePermitted
  | 14 => some .closedTransition
  | 15 => some .deadTime
  | 16 => some .residualThreshold
  | 17 => some .generatorWait
  | 18 => some .slotEnabled
  | 19 => some .rating
  | 20 => some .startOrder
  | 21 => some .startTime
  | 22 => some .unloadStep
  | 23 => some .unloadPercent
  | 24 => some .unloadLimit
  | 25 => some .cooldownTime
  | 26 => some .dmin
  | 27 => some .dmax
  | 28 => some .biasPeriod
  | 29 => some .shedPriority
  | 30 => some .estimate
  | 31 => some .autoRestore
  | 32 => some .preShedRatio
  | 33 => some .restoreMargin
  | 34 => some .restoreInterval
  | 35 => some .remoteSettings
  | 36 => some .lapseTime
  | 64 => some .ufPickup
  | 65 => some .ofPickup
  | 66 => some .uvPickup
  | 67 => some .ovPickup
  | 68 => some .lossDelay
  | 69 => some .returnStable
  | 70 => some .syncLimit
  | 71 => some .slipLimit
  | 72 => some .angleWindow
  | 73 => some .voltageDiff
  | 74 => some .dwell
  | 75 => some .targetSlip
  | 76 => some .biasGain
  | 77 => some .overloadRatio
  | 78 => some .overloadDelay
  | 79 => some .uf1Threshold
  | 80 => some .uf1Delay
  | 81 => some .uf2Threshold
  | 82 => some .uf2Delay
  | 83 => some .restoreFrequency
  | 84 => some .pickup
  | 85 => some .curve
  | 86 => some .timeMultiplier
  | 87 => some .resetTime
  | 88 => some .instThreshold
  | 89 => some .lockoutOnTrip
  | 90 => some .reverseThreshold
  | 91 => some .reverseDelay
  | 92 => some .failureTime
  | 93 => some .failureCurrent
  | _ => none

/-- Whether an item has one value in each setting group (Table 10-2). -/
def Item.isGroup (i : Item) : Bool := 64 ≤ i.code

/-- What one value of an item belongs to: the whole part, or one breaker, bus, slot or block. -/
inductive ItemUnit where
  | one | breaker (b : Breaker) | bus (l : Bus) | slot (n : Slot) | block (f : Block)
  deriving DecidableEq, Repr, Inhabited

/-- The unit an index names for an item, if the index lies within the item's units: breaker 0 to 18, bus 0 or 1, slot
1 to 6, block 0 to 7, and 0 for an item without units (R174, R175; spec/11). -/
def Item.unitOf (i : Item) (index : Nat) : Option ItemUnit :=
  match i with
  | .operateLimit | .closingTime | .positiveSlipOnly | .deadDead | .pickup | .curve | .timeMultiplier | .resetTime | .instThreshold | .lockoutOnTrip =>
    (Breaker.ofIndex index).map .breaker
  | .autoTransfer | .autoRetransfer | .tiePermitted =>
    (Bus.ofIndex index).map .bus
  | .slotEnabled | .rating =>
    if index = 0 then none else (Slot.ofIndex (index - 1)).map .slot
  | .estimate | .autoRestore =>
    (Block.ofIndex index).map .block
  | _ => if index = 0 then some .one else none

/-- The least and greatest value of an item's range (Tables 10-1 and 10-2); none for the two permutation items. -/
def Item.range : Item → Option (Nat × Nat)
  | .qualTime => some (2, 100)
  | .liveThreshold => some (5000, 9500)
  | .deadThreshold => some (500, 4000)
  | .operateLimit => some (50, 1000)
  | .closingTime => some (20, 250)
  | .settleTime => some (1, 20)
  | .positiveSlipOnly => some (0, 1)
  | .deadDead => some (0, 1)
  | .utilityParallel => some (0, 1)
  | .overlapLimit => some (20, 500)
  | .autoTransfer => some (0, 1)
  | .autoRetransfer => some (0, 1)
  | .tiePermitted => some (0, 1)
  | .closedTransition => some (0, 1)
  | .deadTime => some (0, 5000)
  | .residualThreshold => some (1000, 4000)
  | .generatorWait => some (10, 120)
  | .slotEnabled => some (0, 1)
  | .rating => some (100, 10000)
  | .startOrder => none
  | .startTime => some (5, 120)
  | .unloadStep => some (1, 50)
  | .unloadPercent => some (1, 20)
  | .unloadLimit => some (5, 300)
  | .cooldownTime => some (0, 1800)
  | .dmin => some (0, 500)
  | .dmax => some (500, 1000)
  | .biasPeriod => some (1000, 20000)
  | .shedPriority => none
  | .estimate => some (0, 20000)
  | .autoRestore => some (0, 1)
  | .preShedRatio => some (500, 1000)
  | .restoreMargin => some (0, 5000)
  | .restoreInterval => some (1, 600)
  | .remoteSettings => some (0, 1)
  | .lapseTime => some (100, 10000)
  | .ufPickup => some (40000, 69999)
  | .ofPickup => some (40000, 69999)
  | .uvPickup => some (5000, 10000)
  | .ovPickup => some (10000, 15000)
  | .lossDelay => some (20, 5000)
  | .returnStable => some (1, 1800)
  | .syncLimit => some (1, 600)
  | .slipLimit => some (10, 500)
  | .angleWindow => some (100, 3000)
  | .voltageDiff => some (100, 2000)
  | .dwell => some (1, 16)
  | .targetSlip => some (0, 300)
  | .biasGain => some (0, 2000)
  | .overloadRatio => some (800, 1200)
  | .overloadDelay => some (1, 60)
  | .uf1Threshold => some (40000, 69999)
  | .uf1Delay => some (50, 10000)
  | .uf2Threshold => some (40000, 69999)
  | .uf2Delay => some (50, 10000)
  | .restoreFrequency => some (40000, 69999)
  | .pickup => some (0, 20000)
  | .curve => some (0, 3)
  | .timeMultiplier => some (5, 1000)
  | .resetTime => some (0, 10000)
  | .instThreshold => some (0, 1600)
  | .lockoutOnTrip => some (0, 1)
  | .reverseThreshold => some (1, 20)
  | .reverseDelay => some (100, 30000)
  | .failureTime => some (50, 500)
  | .failureCurrent => some (10, 20000)

/-- The nibble of a packed permutation for a unit counted from the most significant one (spec/11). -/
def permNibble (value i : Nat) : Nat := value / 16 ^ (7 - i) % 16

/-- The shed priorities as one value: F1 in the most significant nibble, F8 in the least. -/
def packShed (t : PerBlock Nat) : Nat := t.toList.foldl (fun acc v => acc * 16 + v) 0

/-- The start order as one value: slot 1 in the most significant nibble, the two lowest nibbles 0. -/
def packStart (t : PerSlot Nat) : Nat := t.toList.foldl (fun acc v => acc * 16 + v) 0 * 256

/-- The shed priorities a value packs. -/
def unpackShed (value : Nat) : PerBlock Nat := .ofFn fun f => permNibble value f.index

/-- The start order a value packs. -/
def unpackStart (value : Nat) : PerSlot Nat := .ofFn fun n => permNibble value n.index

/-- Whether a value lies within an item's range (R175, order 2). A pickup is 0 or at least 10, an instantaneous
threshold 0 or at least 32; every nibble of a permutation lies within the numbers it permutes. -/
def Item.inRange (i : Item) (value : Nat) : Bool :=
  match i with
  | .shedPriority => (unpackShed value).toList.all fun v => 1 ≤ v && v ≤ 8
  | .startOrder => ((unpackStart value).toList.all fun v => 1 ≤ v && v ≤ 6) && value % 256 = 0
  | .pickup => value = 0 || (10 ≤ value && value ≤ 20000)
  | .instThreshold => value = 0 || (32 ≤ value && value ≤ 1600)
  | i => match i.range with
    | some (lo, hi) => lo ≤ value && value ≤ hi
    | none => false

/-- The value of a common item for one of its units, yes 1 and no 0. -/
def CommonSettings.read (c : CommonSettings) (i : Item) (u : ItemUnit) : Nat :=
  match i, u with
  | .qualTime, .one => c.qualTime
  | .liveThreshold, .one => c.liveThreshold
  | .deadThreshold, .one => c.deadThreshold
  | .operateLimit, .breaker b => c.operateLimit.get b
  | .closingTime, .breaker b => c.closingTime.get b
  | .settleTime, .one => c.settleTime
  | .positiveSlipOnly, .breaker b => (c.positiveSlipOnly.get b).toNat
  | .deadDead, .breaker b => (c.deadDead.get b).toNat
  | .utilityParallel, .one => c.utilityParallel.toNat
  | .overlapLimit, .one => c.overlapLimit
  | .autoTransfer, .bus l => (c.autoTransfer.get l).toNat
  | .autoRetransfer, .bus l => (c.autoRetransfer.get l).toNat
  | .tiePermitted, .bus l => (c.tiePermitted.get l).toNat
  | .closedTransition, .one => c.closedTransition.toNat
  | .deadTime, .one => c.deadTime
  | .residualThreshold, .one => c.residualThreshold
  | .generatorWait, .one => c.generatorWait
  | .slotEnabled, .slot n => (c.slotEnabled.get n).toNat
  | .rating, .slot n => c.rating.get n
  | .startOrder, .one => packStart c.startOrder
  | .startTime, .one => c.startTime
  | .unloadStep, .one => c.unloadStep
  | .unloadPercent, .one => c.unloadPercent
  | .unloadLimit, .one => c.unloadLimit
  | .cooldownTime, .one => c.cooldownTime
  | .dmin, .one => c.dmin
  | .dmax, .one => c.dmax
  | .biasPeriod, .one => c.biasPeriod
  | .shedPriority, .one => packShed c.shedPriority
  | .estimate, .block f => c.estimate.get f
  | .autoRestore, .block f => (c.autoRestore.get f).toNat
  | .preShedRatio, .one => c.preShedRatio
  | .restoreMargin, .one => c.restoreMargin
  | .restoreInterval, .one => c.restoreInterval
  | .remoteSettings, .one => c.remoteSettings.toNat
  | .lapseTime, .one => c.lapseTime
  | _, _ => 0

/-- The common items with one value replaced. -/
def CommonSettings.write (c : CommonSettings) (i : Item) (u : ItemUnit) (v : Nat) : CommonSettings :=
  match i, u with
  | .qualTime, .one => { c with qualTime := v }
  | .liveThreshold, .one => { c with liveThreshold := v }
  | .deadThreshold, .one => { c with deadThreshold := v }
  | .operateLimit, .breaker b => { c with operateLimit := c.operateLimit.set b v }
  | .closingTime, .breaker b => { c with closingTime := c.closingTime.set b v }
  | .settleTime, .one => { c with settleTime := v }
  | .positiveSlipOnly, .breaker b => { c with positiveSlipOnly := c.positiveSlipOnly.set b (v != 0) }
  | .deadDead, .breaker b => { c with deadDead := c.deadDead.set b (v != 0) }
  | .utilityParallel, .one => { c with utilityParallel := (v != 0) }
  | .overlapLimit, .one => { c with overlapLimit := v }
  | .autoTransfer, .bus l => { c with autoTransfer := c.autoTransfer.set l (v != 0) }
  | .autoRetransfer, .bus l => { c with autoRetransfer := c.autoRetransfer.set l (v != 0) }
  | .tiePermitted, .bus l => { c with tiePermitted := c.tiePermitted.set l (v != 0) }
  | .closedTransition, .one => { c with closedTransition := (v != 0) }
  | .deadTime, .one => { c with deadTime := v }
  | .residualThreshold, .one => { c with residualThreshold := v }
  | .generatorWait, .one => { c with generatorWait := v }
  | .slotEnabled, .slot n => { c with slotEnabled := c.slotEnabled.set n (v != 0) }
  | .rating, .slot n => { c with rating := c.rating.set n v }
  | .startOrder, .one => { c with startOrder := unpackStart v }
  | .startTime, .one => { c with startTime := v }
  | .unloadStep, .one => { c with unloadStep := v }
  | .unloadPercent, .one => { c with unloadPercent := v }
  | .unloadLimit, .one => { c with unloadLimit := v }
  | .cooldownTime, .one => { c with cooldownTime := v }
  | .dmin, .one => { c with dmin := v }
  | .dmax, .one => { c with dmax := v }
  | .biasPeriod, .one => { c with biasPeriod := v }
  | .shedPriority, .one => { c with shedPriority := unpackShed v }
  | .estimate, .block f => { c with estimate := c.estimate.set f v }
  | .autoRestore, .block f => { c with autoRestore := c.autoRestore.set f (v != 0) }
  | .preShedRatio, .one => { c with preShedRatio := v }
  | .restoreMargin, .one => { c with restoreMargin := v }
  | .restoreInterval, .one => { c with restoreInterval := v }
  | .remoteSettings, .one => { c with remoteSettings := (v != 0) }
  | .lapseTime, .one => { c with lapseTime := v }
  | _, _ => c

/-- The value of a group item for one of its units. -/
def GroupSettings.read (g : GroupSettings) (i : Item) (u : ItemUnit) : Nat :=
  match i, u with
  | .ufPickup, .one => g.ufPickup
  | .ofPickup, .one => g.ofPickup
  | .uvPickup, .one => g.uvPickup
  | .ovPickup, .one => g.ovPickup
  | .lossDelay, .one => g.lossDelay
  | .returnStable, .one => g.returnStable
  | .syncLimit, .one => g.syncLimit
  | .slipLimit, .one => g.slipLimit
  | .angleWindow, .one => g.angleWindow
  | .voltageDiff, .one => g.voltageDiff
  | .dwell, .one => g.dwell
  | .targetSlip, .one => g.targetSlip
  | .biasGain, .one => g.biasGain
  | .overloadRatio, .one => g.overloadRatio
  | .overloadDelay, .one => g.overloadDelay
  | .uf1Threshold, .one => g.uf1Threshold
  | .uf1Delay, .one => g.uf1Delay
  | .uf2Threshold, .one => g.uf2Threshold
  | .uf2Delay, .one => g.uf2Delay
  | .restoreFrequency, .one => g.restoreFrequency
  | .pickup, .breaker b => g.pickup.get b
  | .curve, .breaker b => g.curve.get b
  | .timeMultiplier, .breaker b => g.timeMultiplier.get b
  | .resetTime, .breaker b => g.resetTime.get b
  | .instThreshold, .breaker b => g.instThreshold.get b
  | .lockoutOnTrip, .breaker b => (g.lockoutOnTrip.get b).toNat
  | .reverseThreshold, .one => g.reverseThreshold
  | .reverseDelay, .one => g.reverseDelay
  | .failureTime, .one => g.failureTime
  | .failureCurrent, .one => g.failureCurrent
  | _, _ => 0

/-- The group items with one value replaced. -/
def GroupSettings.write (g : GroupSettings) (i : Item) (u : ItemUnit) (v : Nat) : GroupSettings :=
  match i, u with
  | .ufPickup, .one => { g with ufPickup := v }
  | .ofPickup, .one => { g with ofPickup := v }
  | .uvPickup, .one => { g with uvPickup := v }
  | .ovPickup, .one => { g with ovPickup := v }
  | .lossDelay, .one => { g with lossDelay := v }
  | .returnStable, .one => { g with returnStable := v }
  | .syncLimit, .one => { g with syncLimit := v }
  | .slipLimit, .one => { g with slipLimit := v }
  | .angleWindow, .one => { g with angleWindow := v }
  | .voltageDiff, .one => { g with voltageDiff := v }
  | .dwell, .one => { g with dwell := v }
  | .targetSlip, .one => { g with targetSlip := v }
  | .biasGain, .one => { g with biasGain := v }
  | .overloadRatio, .one => { g with overloadRatio := v }
  | .overloadDelay, .one => { g with overloadDelay := v }
  | .uf1Threshold, .one => { g with uf1Threshold := v }
  | .uf1Delay, .one => { g with uf1Delay := v }
  | .uf2Threshold, .one => { g with uf2Threshold := v }
  | .uf2Delay, .one => { g with uf2Delay := v }
  | .restoreFrequency, .one => { g with restoreFrequency := v }
  | .pickup, .breaker b => { g with pickup := g.pickup.set b v }
  | .curve, .breaker b => { g with curve := g.curve.set b v }
  | .timeMultiplier, .breaker b => { g with timeMultiplier := g.timeMultiplier.set b v }
  | .resetTime, .breaker b => { g with resetTime := g.resetTime.set b v }
  | .instThreshold, .breaker b => { g with instThreshold := g.instThreshold.set b v }
  | .lockoutOnTrip, .breaker b => { g with lockoutOnTrip := g.lockoutOnTrip.set b (v != 0) }
  | .reverseThreshold, .one => { g with reverseThreshold := v }
  | .reverseDelay, .one => { g with reverseDelay := v }
  | .failureTime, .one => { g with failureTime := v }
  | .failureCurrent, .one => { g with failureCurrent := v }
  | _, _ => g

/-- The part one full overcurrent bucket holds (R147). -/
def bucketFull : Nat := 16777216

/-- One entry of a curve table: a threshold in sixteenths of pickup and a rate in bucket units per ms (R148). -/
structure CurveEntry where
  threshold : Nat
  rate : Nat
  deriving DecidableEq, Repr, Inhabited

/-- The default thresholds of all four tables (R148). -/
def defaultThresholds : List Nat := [16, 20, 24, 32, 40, 48, 64, 80, 96, 128, 160, 192, 240, 320, 480, 640]

/-- The trip times of the default tables at TM 1.00, in ms (R148). -/
def defaultTripTimes : CurveNo → List Nat
  | .c0 => [1000, 1000, 1000, 1000, 1000, 1000, 1000, 1000, 1000, 1000, 1000, 1000, 1000, 1000, 1000, 1000]
  | .c1 => [30000, 12000, 7000, 4000, 2800, 2000, 1500, 1200, 1000, 850, 750, 700, 650, 600, 560, 540]
  | .c2 => [60000, 20000, 10000, 4500, 2600, 1800, 1000, 660, 480, 300, 220, 170, 130, 100, 80, 70]
  | .c3 => [120000, 40000, 16000, 6000, 3000, 1800, 800, 450, 300, 160, 100, 70, 50, 40, 30, 25]

/-- The default curve tables: each rate is floor(16,777,216 / t) (R148). -/
def defaultCurve (c : CurveNo) : List CurveEntry :=
  List.zipWith (fun th t => { threshold := th, rate := bucketFull / t }) defaultThresholds (defaultTripTimes c)

/-- The lockout of a breaker: its flag and its cause, NONE while the flag is clear (spec/08, section 8.1). -/
structure Lockout where
  flag : Bool
  cause : Cause
  deriving DecidableEq, Repr, Inhabited

/-- Everything the settings store holds in each of its two copies (R174). -/
structure StoreData where
  common : CommonSettings
  groups : PerGroup GroupSettings
  active : GroupNo
  /-- The out-of-service flag of each breaker (R61). -/
  outOfService : PerBreaker Bool
  lockout : PerBreaker Lockout
  curves : PerCurve (List CurveEntry)
  deriving DecidableEq, Repr, Inhabited

/-- The defaults of the tables with the default curves, active group 0, and every flag clear (R178). -/
def defaultStore : StoreData where
  common := defaultCommon
  groups := .ofFn fun _ => defaultGroup
  active := .n0
  outOfService := .ofFn fun _ => false
  lockout := .ofFn fun _ => ⟨false, .none⟩
  curves := .ofFn defaultCurve

/-- What an invalid image loads: the defaults, with auto-transfer enabled set to no for both buses (R178). -/
def defaultedStore : StoreData :=
  { defaultStore with common := { defaultCommon with autoTransfer := .ofFn fun _ => false } }

/-- The group settings in force: those of the active group. -/
def StoreData.group (d : StoreData) : GroupSettings := d.groups.get d.active

/-- The value of an item for one of its units, a group item taken from the named group (R170, R174). -/
def StoreData.readItem (d : StoreData) (window : GroupNo) (i : Item) (u : ItemUnit) : Nat :=
  if i.isGroup then (d.groups.get window).read i u else d.common.read i u

/-- The store's data with the value of one item replaced (R175). -/
def StoreData.writeItem (d : StoreData) (window : GroupNo) (i : Item) (u : ItemUnit) (v : Nat) : StoreData :=
  if i.isGroup then { d with groups := d.groups.modify window fun g => g.write i u v }
  else { d with common := d.common.write i u v }

/-- Whether a list holds each of 1 to n once. -/
def isPermutation (n : Nat) (l : List Nat) : Bool :=
  (List.range n).all fun i => l.count (i + 1) = 1

/-- The consistency rules of R175, judged on the common items. -/
def CommonSettings.consistent (c : CommonSettings) : Bool :=
  c.deadThreshold < c.liveThreshold && c.dmin ≤ 500 && 500 ≤ c.dmax &&
    isPermutation 8 c.shedPriority.toList && isPermutation 6 c.startOrder.toList

/-- The consistency rule of R175 within one group. -/
def GroupSettings.consistent (g : GroupSettings) : Bool := g.uvPickup < g.ovPickup

/-- Every consistency rule of R175. -/
def StoreData.consistent (d : StoreData) : Bool :=
  d.common.consistent && GroupNo.all.all fun n => (d.groups.get n).consistent

/-- Whether the consistency rules hold that a write of an item is judged by (R175): a group item within the group it is
written to, a common item by every rule. -/
def StoreData.consistentFor (d : StoreData) (item : Item) (g : GroupNo) : Bool :=
  if item.isGroup then (d.groups.get g).consistent else d.consistent

/-- A valid curve table (R148). -/
def curveValid (t : List CurveEntry) : Bool :=
  t.length = 16 && (match t with | e :: _ => e.threshold = 16 | [] => false) &&
    (t.all fun e => 1 ≤ e.rate && e.rate ≤ bucketFull) &&
    ((t.zip t.tail).all fun (a, b) => a.threshold < b.threshold && a.rate ≤ b.rate)

end Machine

end Sys2Proof
end

