-- ==== Sys2Proof/Machine/Blocks.lean ====
section
/-! DEFINITION. The records each block of the part keeps (spec/00, section 4, and the record tables of chapters 1 to 10),
and what each block holds after device reset. -/

namespace Sys2Proof.Machine

/-! ## Time -/

/-- The counters driven by the 10 MHz reference. `subMs` is the model's own: how many ticks the millisecond counter is
past its last count (R7, R180). DEDUCED: assumption 3. -/
structure Clock where
  timebase : Word32
  subMs : Nat
  ms : Word32
  deriving DecidableEq, Repr, Inhabited

/-- A timer in ms: stopped, running to a value of the millisecond counter (R180), or suspended or frozen with its
remaining time. -/
inductive Timer where
  | off
  | running (deadline : Word32)
  | held (remaining : Nat)
  deriving DecidableEq, Repr, Inhabited

/-! ## Measurement: MLR and PCU -/

/-- The measurement image: the values of the latest accepted frame (R3). -/
structure Image where
  volt : PerChannel Nat
  curr : PerBreaker Nat
  power : PerSlot Int
  deriving DecidableEq, Repr, Inhabited

/-- What MLR holds (R2 to R6). -/
structure Mlr where
  image : Image
  fresh : Bool
  runCount : Nat
  lastSeq : Option Byte
  watchdog : Timer
  firstFresh : Bool
  deriving DecidableEq, Repr, Inhabited

/-- The states of a channel (R10). -/
inductive ChannelState where
  | noSignal | acquiring | tracking
  deriving DecidableEq, Repr, Inhabited

/-- A qualification under way: its capture and its length in ticks (R8). -/
structure Qualification where
  capture : Word32
  length : Nat
  deriving DecidableEq, Repr, Inhabited

/-- One channel record (R9 to R13), with the qualification under way on its input. The last-edge timer is held as the
timebase value at which it expires. -/
structure ChannelRec where
  cLast : Word32
  cPrev : Word32
  period : Nat
  freq : Nat
  state : ChannelState
  good : Nat
  cycles : Word16
  early : Bool
  lastEdge : Option Word32
  qual : Option Qualification
  deriving DecidableEq, Repr, Inhabited

/-- What every other block reads but none changes: the clock, the image and the channel table. -/
structure Sensed where
  clock : Clock
  mlr : Mlr
  pcu : PerChannel ChannelRec
  deriving DecidableEq, Repr, Inhabited

/-- The voltage classes (R15). -/
inductive VClass where
  | live | dead | indeterminate
  deriving DecidableEq, Repr, Inhabited

/-! ## SMN -/

/-- The states of a health record (R19), numbered as R21 numbers them. -/
inductive Health where
  | unknown | healthy | pendingLoss | lost | returning
  deriving DecidableEq, Repr, Inhabited

/-- One health record (section 1.4). The timer is the loss delay in PENDING_LOSS, the return stable timer in RETURNING. -/
structure HealthRec where
  state : Health
  timer : Timer
  reason : Cause
  lastChange : Word32
  deriving DecidableEq, Repr, Inhabited

/-- What SMN holds. -/
structure Smn where
  health : PerUtility HealthRec
  gbAvailable : Bool
  deriving DecidableEq, Repr, Inhabited

/-! ## SYE -/

/-- The requester of an attempt (section 2.1). -/
inductive Requester where
  | transfer (l : Bus) | gen (n : Slot) | port (p : Port)
  deriving DecidableEq, Repr, Inhabited

/-- The states of an attempt (R24). -/
inductive AttemptState where
  | evaluating | closeIssued | ended
  deriving DecidableEq, Repr, Inhabited

/-- One attempt record (section 2.1). The X and R channels follow from the breaker. -/
structure Attempt where
  breaker : Breaker
  requester : Requester
  startTime : Word32
  startCycle : Word16
  deadline : Word32
  count : Nat
  lastCycle : Option Word16
  lastSlip : Option Int
  lastTheta : Option Int
  lastThetaP : Option Int
  lastDeltaV : Option Nat
  failing : Cause
  stepPermission : Bool
  state : AttemptState
  result : Option Cause
  issueRefusal : Option Reason
  deriving DecidableEq, Repr, Inhabited

/-- What SYE holds: the eight slots and the creation order, oldest first (R24). -/
structure Sye where
  slots : PerAttempt (Option Attempt)
  order : List AttemptNo
  deriving DecidableEq, Repr, Inhabited

/-! ## BCU -/

/-- The observed states of a breaker (R43). -/
inductive Observed where
  | opened | closed | travel | invalid
  deriving DecidableEq, Repr, Inhabited

/-- The commanded states of a breaker. -/
inductive Position where
  | opened | closed
  deriving DecidableEq, Repr, Inhabited

/-- The kinds of operation (section 3.3). -/
inductive OpKind where
  | close | opening | trip
  deriving DecidableEq, Repr, Inhabited

/-- Who demands of BCU (section 3.1). -/
inductive Party where
  | port (p : Port) | transfer (l : Bus) | gen (n : Slot) | load | protection | overlap
  deriving DecidableEq, Repr, Inhabited

/-- An operation in flight (section 3.1). `serial` is the model's own: which of its bus's transfers demanded it, 0 for
another party (R102). -/
structure Operation where
  kind : OpKind
  party : Party
  cause : Cause
  attempt : Option AttemptNo
  start : Word32
  deadline : Word32
  serial : Nat
  deriving DecidableEq, Repr, Inhabited

/-- A reservation holder (section 3.1); a port holds with the number of its attempt, or without one. -/
inductive Holder where
  | transfer (l : Bus) | gen (n : Slot) | load | port (p : Port) (attempt : Option AttemptNo)
  deriving DecidableEq, Repr, Inhabited

/-- One breaker record (section 3.1): the auxiliary-contact inputs and their settle timing (R43), and the fields BCU
changes. Settings, the out-of-service flag and the lockout stand in the settings store. `settled` says whether the
first settle after device reset has come (R64). -/
structure BreakerRec where
  closedMade : Bool
  openMade : Bool
  settle : Timer
  settled : Bool
  observed : Observed
  commanded : Position
  op : Option Operation
  closeBlocked : Bool
  openFailed : Bool
  holder : Option Holder
  opCount : Nat
  lastCause : Cause
  closeCoil : Bool
  tripCoil : Bool
  deriving DecidableEq, Repr, Inhabited

/-! ## TIU -/

/-- Bus supply states (R67). -/
inductive Supply where
  | utility | tie | gen | parallel | dead
  deriving DecidableEq, Repr, Inhabited

/-- A claim request that waits (section 4.3). -/
structure ClaimRequest where
  breaker : Breaker
  party : Party
  arrival : Word32
  deriving DecidableEq, Repr, Inhabited

/-- The holder of a claim (section 4.3). -/
structure ClaimHolder where
  breaker : Breaker
  party : Party
  grant : Word32
  lapse : Word32
  started : Bool
  deriving DecidableEq, Repr, Inhabited

/-- One claim record. -/
structure Claim where
  holder : Option ClaimHolder
  waiting : List ClaimRequest
  deriving DecidableEq, Repr, Inhabited

/-- One overlap timer (R80). The group is the set of its nodes; `expired` is set when it has expired with its trip
demands issued. `serial` is the model's own: timers started earlier have lower numbers. -/
structure OverlapTimer where
  group : PerChannel Bool
  deadline : Word32
  expired : Bool
  arriving : Option Breaker
  serial : Nat
  deriving DecidableEq, Repr, Inhabited

/-- What TIU holds. `formed` says whether the first evaluation has been made (R68); `busClass` is each bus's class as
TIU last took it, kept to see a change to live (R79). -/
structure Tiu where
  formed : Bool
  supply : PerBus Supply
  claims : PerClaimBus Claim
  overlaps : List OverlapTimer
  nextSerial : Nat
  busClass : PerClaimBus VClass
  deriving DecidableEq, Repr, Inhabited

/-! ## TSQ -/

/-- Transfer targets. -/
inductive Target where
  | utility | tie | gen
  deriving DecidableEq, Repr, Inhabited

/-- Transition kinds (section 5.1). -/
inductive Mode where
  | openTransition | closedTransition
  deriving DecidableEq, Repr, Inhabited

/-- Transfer stages, numbered 0 to 8 (section 5.1). -/
inductive Stage where
  | pending | reserve | openRetiring | deadWait | sourceWait | preShed | syncWait | closeArriving | overlap
  deriving DecidableEq, Repr, Inhabited

/-- One transfer record (section 5.1). The model's own fields: `needsGen` (R97: the transfer has entered SOURCE_WAIT
with target GEN), `retry` (its close was refused for a reason that makes TSQ demand it again at each accepted frame,
R99, R100), `preShedDone` (LDM has reported that the opens have ended, R98), `serial` (the transfers the record has held
since device reset, which tells one from the next, R102). -/
structure TransferRec where
  inProgress : Bool
  origin : Cause
  target : Option Target
  mode : Mode
  stage : Option Stage
  timer : Timer
  supplyAtStart : Supply
  retiring : Option Breaker
  arriving : Option Breaker
  attempt : Option AttemptNo
  closeStarted : Bool
  preShedMask : PerBlock Bool
  stepPending : Bool
  result : Cause
  recoverArmed : Bool
  needsGen : Bool
  retry : Bool
  preShedDone : Bool
  serial : Nat
  deriving DecidableEq, Repr, Inhabited

/-- What TSQ holds, with the start-up delay it waits for (R83, R181). `reserveOrder` keeps the transfers in the order in
which they were first refused a reservation, each with the time of that refusal (R94). `autoStarted` is the model's own:
the buses on which a trigger has created a transfer within the step under way. -/
structure Tsq where
  records : PerBus TransferRec
  hold : Bool
  required : Nat
  gbLossTimer : Timer
  gbLost : Bool
  startUpDelay : Timer
  startUpEnded : Bool
  reserveOrder : List (Bus × Word32)
  autoStarted : PerBus Bool
  deriving DecidableEq, Repr, Inhabited

/-! ## GSC -/

/-- Slot states, numbered 0 to 9 (section 6.1). -/
inductive SlotState where
  | unavailable | standby | starting | awaitingBus | synchronizing | closing | online | unloading | cooldown | failed
  deriving DecidableEq, Repr, Inhabited

/-- Demand sources (R109). -/
inductive Demand where
  | none | plan | port
  deriving DecidableEq, Repr, Inhabited

/-- One slot record (section 6.1). `timer` is the start timer in STARTING, the sync wait in SYNCHRONIZING, the unload
limit in UNLOADING and the cooldown in COOLDOWN; `ramp` is the ramp step timer. The model's own fields: `openDemanded`
(GSC has demanded the OPEN that ends UNLOADING), `unloadTimedOut` (it did so at the unload limit, R121). -/
structure SlotRec where
  state : SlotState
  demand : Demand
  barred : Bool
  deferredStop : Bool
  ready : Bool
  attempt : Option AttemptNo
  setPoint : Nat
  duty : Nat
  fault : Option Cause
  timer : Timer
  ramp : Timer
  openDemanded : Bool
  unloadTimedOut : Bool
  deriving DecidableEq, Repr, Inhabited

/-- The bias outputs: the period under way, its start, the duties it began with, and the output levels (R125). -/
structure Bias where
  start : Word32
  period : Nat
  duties : PerSlot Nat
  high : PerSlot Bool
  deriving DecidableEq, Repr, Inhabited

/-- What GSC holds. -/
structure Gsc where
  slots : PerSlot SlotRec
  required : Nat
  bias : Bias
  deriving DecidableEq, Repr, Inhabited

/-! ## LDM -/

/-- Block states with the shed phase (R129). -/
inductive BlockState where
  | connected | opening | listed | restoring | openOther | blocked
  deriving DecidableEq, Repr, Inhabited

/-- One load block record (section 7.1). `restorePort` is the model's own: whether the restore close in flight was
requested by a port (R129: the cause of BLOCK_RESTORED). -/
structure BlockRec where
  state : BlockState
  restoreRequested : Bool
  lastShed : Cause
  restorePort : Bool
  deriving DecidableEq, Repr, Inhabited

/-- What LDM holds. `preShedOpens` holds, for each bus whose transfer has asked for a pre-shed, the feeders whose opens
have not ended yet (R132). -/
structure Ldm where
  blocks : PerBlock BlockRec
  shedList : List Block
  restoreTimer : Timer
  pacingStopped : Bool
  overload : Timer
  uf : PerUfStage Timer
  preShedOpens : PerBus (List Block)
  deriving DecidableEq, Repr, Inhabited

/-! ## PRU -/

/-- One protection record (section 8.1); the lockout stands in the settings store. -/
structure ProtectionRec where
  bucket : Nat
  operated : Bool
  instCount : Nat
  reverse : Nat
  failure : Timer
  backupWatch : Bool
  m16 : Nat
  deriving DecidableEq, Repr, Inhabited

/-- The curve load buffer (R149). -/
structure CurveBuffer where
  owner : Option Port
  curve : CurveNo
  index : Nat
  entries : List CurveEntry
  deriving DecidableEq, Repr, Inhabited

/-- What PRU holds. -/
structure Pru where
  records : PerBreaker ProtectionRec
  buffer : CurveBuffer
  deriving DecidableEq, Repr, Inhabited

/-! ## CPI -/

/-- Supervisor roles (R166), numbered STANDBY 0, ACTIVE 1, LAPSED 2. -/
inductive Role where
  | standby | active | lapsed
  deriving DecidableEq, Repr, Inhabited

/-- What STATUS returns (R165). -/
structure StatusInfo where
  fresh : Bool
  hasBeenFresh : Bool
  roleA : Role
  roleB : Role
  holder : Option Port
  localKey : Bool
  settingsKey : Bool
  hold : Bool
  supply : PerBus Supply
  transferActive : PerBus Bool
  writeInFlight : Bool
  unread : Nat
  deriving DecidableEq, Repr, Inhabited

/-- The payload of a response. STATUS and LIVENESS are kept by content, since no rule gives their byte layout, and so is
the record of table 0, whose fields fill more bytes than one payload takes. DESIGN CHOICE: assumption 12. -/
inductive Payload where
  | bytes (l : List Byte)
  | image (fields : List Byte)
  | status (i : StatusInfo)
  | liveness (roleA roleB : Role) (lapse : Option Nat)
  deriving DecidableEq, Repr, Inhabited

/-- A response (R161, R162). -/
structure Response where
  status : Status
  payload : Payload
  deriving DecidableEq, Repr, Inhabited

/-- One port context (R173). CP-P has no role; its role field stays STANDBY and is not read. `assembly` holds the bytes
of the window under way, which between commands are none; `discarding` says that the window under way was open at the
release of reset and is discarded to its end; `response` is the answer given in the latest window, none if it got none. -/
structure PortRec where
  role : Role
  lapse : Timer
  window : GroupNo
  assembly : List Byte
  discarding : Bool
  response : Option Response
  deriving DecidableEq, Repr, Inhabited

/-- One key input (R164): the level in effect, the level at the input, the timing of a level that is not yet in effect,
and whether that timing is of the level found at reset. -/
structure KeyRec where
  level : Bool
  input : Bool
  timing : Timer
  fromReset : Bool
  deriving DecidableEq, Repr, Inhabited

/-- What CPI holds. -/
structure Cpi where
  ports : PerPort PortRec
  keys : PerKey KeyRec
  deriving DecidableEq, Repr, Inhabited

/-! ## SST -/

/-- A value of the tables, as the unstored indication names it (R174); a common item always stands with group 0. -/
structure ItemRef where
  item : Item
  unit : ItemUnit
  group : GroupNo
  deriving DecidableEq, Repr, Inhabited

/-- The kinds of nonvolatile write (R176). -/
inductive WriteKind where
  | setting (port : Port) (ref : ItemRef)
  | service (b : Breaker)
  | curve (port : Port) (c : CurveNo)
  | group (port : Port) (g : GroupNo)
  | lockout (breakers : List Breaker)
  | defaults
  deriving DecidableEq, Repr, Inhabited

/-- A nonvolatile write in flight: its kind and the data the image holds if the verify passes. -/
structure Write where
  kind : WriteKind
  data : StoreData
  start : Word32
  deriving DecidableEq, Repr, Inhabited

/-- The unstored indications: every value is unstored or stored as `base` says, but those of `except`, which are the
other way. DEDUCED: assumption 48. -/
structure Unstored where
  base : Bool
  except : List ItemRef
  deriving DecidableEq, Repr, Inhabited

/-- What SST holds: the working values, the stored image, the write in flight and the pending lockout set in ascending
breaker index (R174, R176). -/
structure Sst where
  working : StoreData
  image : StoreData
  write : Option Write
  unstored : Unstored
  pendingLockouts : List Breaker
  deriving DecidableEq, Repr, Inhabited

/-! ## ERQ -/

/-- The subject of an event (R185). -/
inductive Subject where
  | none | breaker (b : Breaker) | channel (c : Channel) | utility (u : Utility) | gb
  | slot (n : Slot) | bus (l : ClaimBus) | port (p : Port)
  deriving DecidableEq, Repr, Inhabited

/-- One event record (R179). -/
structure Event where
  seq : Word16
  time : Word32
  kind : EventKind
  subject : Subject
  cause : Cause
  value : Int
  deriving DecidableEq, Repr, Inhabited

/-- What ERQ holds: the records, oldest first, the sequence number the next record takes, and the port cursors. -/
structure Erq where
  events : List Event
  nextSeq : Word16
  cursors : PerPort Word16
  deriving DecidableEq, Repr, Inhabited

/-! ## Answers and notices between blocks -/

/-- The answer to a close or open demand (section 4.2): refused, started, acknowledged without operation, made an
attempt, or made a claim request with its position (0 for the claim's holder). -/
inductive Answer where
  | refused (r : Reason) | started | acknowledged | attempt (n : AttemptNo) | claim (position : Nat)
  deriving DecidableEq, Repr, Inhabited

/-- How an operation ended (R51). A cut carries the cutting demand's party and cause. -/
inductive OpEnd where
  | completed | failed (result : Cause) | cut (party : Party) (cause : Cause)
  deriving DecidableEq, Repr, Inhabited

/-- One transfer: its bus, and which of that bus's transfers it is (R102). -/
structure TransferMark where
  bus : Bus
  serial : Nat
  deriving DecidableEq, Repr, Inhabited

/-- BCU's report of the end of an operation (R51), with the transfer that held the reservation at the moment of the end,
if one did, and whether the close had been issued by an attempt still in progress. -/
structure OpReport where
  breaker : Breaker
  op : Operation
  fin : OpEnd
  transfer : Option TransferMark
  byAttempt : Bool
  deriving DecidableEq, Repr, Inhabited

/-- SYE's report of the end of an attempt to its requester (R35): for a CLOSE_FAILED it carries BCU's report, or the
reason with which the close was refused at issue. -/
structure AttemptReport where
  number : AttemptNo
  breaker : Breaker
  requester : Requester
  result : Cause
  fin : Option OpEnd
  refusal : Option Reason
  deriving DecidableEq, Repr, Inhabited

/-- What one block tells another within a step, where the other block takes it up after the teller has done. -/
inductive Notice where
  /-- An accepted frame, delivered to each block in turn (R3). -/
  | frameSmn | framePru | frameTiu | frameLdm | frameGsc | frameTsq
  /-- A change of staleness (R5); a change to FRESH resumes suspended timers, one to STALE suspends them. -/
  | stalenessSmn | stalenessTsq | stalenessLdm | stalenessTiu | stalenessGsc
  /-- An accepted edge of a channel (R13), an accepted period of it (R135), and a change of its state (R13). -/
  | edgeSye (c : Channel) | periodLdm (c : Channel)
  | channelSmn (c : Channel) | channelTiu | channelLdm (c : Channel) | channelGsc (c : Channel)
  /-- SMN: a health record changed state (R21); GB availability changed (R22). -/
  | healthChanged (u : Utility) | availabilityChanged
  /-- BCU: an observed state changed, with the operation then in flight (R44); an operation ended (R51); an open of a
  reserved breaker was taken from a port (R59); the open of a breaker a transfer had reserved became a trip (R54); a
  reservation was released. Those that can end a transfer name the one that had reserved the breaker (R102). -/
  | observed (b : Breaker) (new : Observed) (op : Option Operation) (first : Bool) (t : Option TransferMark)
  | opEnded (r : OpReport)
  | operatorOpen (b : Breaker) (h : Holder) (t : Option TransferMark)
  | relabelled (t : TransferMark) (cause : Cause)
  | released (b : Breaker)
  | serviceChanged (b : Breaker)
  /-- TIU: a supply state changed, from `old` (R67); a claim was granted (R76) or ended (R78); a port's claim is to be demanded
  (R76, R77); an overlap timer expired (R81); BCU started a port's close of a feeder (R141). -/
  | supplyChanged (l : Bus) (old : Supply)
  | claimGranted (bus : ClaimBus) (b : Breaker) (p : Party)
  | claimEnded (bus : ClaimBus) (b : Breaker) (p : Party) (cause : Cause)
  | portClaimDemand (bus : ClaimBus)
  | overlapExpired (group : PerChannel Bool)
  | portFeederClose (b : Breaker)
  /-- SYE: the outcome of an evaluation for GSC, with the slip if one was formed, the first failing condition and the
  in-window count (R34); an attempt's close issued (R33); its end (R35). -/
  | evaluation (n : Slot) (slip : Option Int) (failing : Cause) (count : Nat)
  | closeIssued (n : AttemptNo) (r : Requester)
  | attemptEnded (r : AttemptReport)
  /-- GSC: a slot changed state (R108); capacity online changed (R119); the plan is to be evaluated (R111). -/
  | slotChanged | capacityChanged | planEvaluation
  /-- LDM: a block's record changed (R128); a restore candidate is to be sought (R136); a pre-shed's opens have all
  ended (R132). -/
  | blockChanged | seekRestore | preShedEnded (l : Bus)
  /-- TSQ: triggers are to be evaluated (R83); a transfer's stage may be complete (R93); hold has ended (R104). -/
  | triggers | progress (l : Bus) | holdEnded
  deriving DecidableEq, Repr, Inhabited

/-- Everything the thirteen blocks hold that is not measured: the records of chapters 1 to 10 but the image, the channel
table and the clock. `notices` is the model's own: what one block has told another and the other has not taken up yet.
It is empty between steps. -/
structure Control where
  smn : Smn
  sye : Sye
  bcu : PerBreaker BreakerRec
  tiu : Tiu
  tsq : Tsq
  gsc : Gsc
  ldm : Ldm
  pru : Pru
  cpi : Cpi
  sst : Sst
  erq : Erq
  notices : List Notice
  deriving DecidableEq, Repr, Inhabited

/-! ## After device reset -/

/-- The channel record after device reset (R14). -/
def resetChannel : ChannelRec where
  cLast := 0
  cPrev := 0
  period := 0
  freq := 0
  state := .noSignal
  good := 0
  cycles := 0
  early := false
  lastEdge := none
  qual := none

/-- What MLR holds after device reset (R6). -/
def resetMlr : Mlr where
  image := { volt := .ofFn fun _ => 0, curr := .ofFn fun _ => 0, power := .ofFn fun _ => 0 }
  fresh := false
  runCount := 0
  lastSeq := none
  watchdog := .off
  firstFresh := false

/-- The measured side after device reset: counters at 0 (R7, R180), MLR (R6) and PCU (R14). -/
def resetSensed : Sensed where
  clock := { timebase := 0, subMs := 0, ms := 0 }
  mlr := resetMlr
  pcu := .ofFn fun _ => resetChannel

/-- What SMN holds after device reset (R23). -/
def resetSmn : Smn where
  health := .ofFn fun _ => { state := .unknown, timer := .off, reason := .none, lastChange := 0 }
  gbAvailable := false

/-- The attempt list after device reset (R24). -/
def resetSye : Sye where
  slots := .ofFn fun _ => none
  order := []

/-- A breaker record after device reset (R64). The contact inputs keep the levels the plant gives them; the first settle
is timed from the release of reset with the loaded settle time. -/
def resetBreaker (settleTime : Nat) (closedMade openMade : Bool) : BreakerRec where
  closedMade := closedMade
  openMade := openMade
  settle := .running (BitVec.ofNat 32 settleTime)
  settled := false
  observed := .travel
  commanded := .opened
  op := none
  closeBlocked := false
  openFailed := false
  holder := none
  opCount := 0
  lastCause := .none
  closeCoil := false
  tripCoil := false

/-- What TIU holds after device reset (R68). -/
def resetTiu : Tiu where
  formed := false
  supply := .ofFn fun _ => .dead
  claims := .ofFn fun _ => { holder := none, waiting := [] }
  overlaps := []
  nextSerial := 0
  busClass := .ofFn fun _ => .indeterminate

/-- A transfer record after device reset (R82). DESIGN CHOICE: assumption 51. -/
def resetTransfer : TransferRec where
  inProgress := false
  origin := .none
  target := none
  mode := .openTransition
  stage := none
  timer := .off
  supplyAtStart := .dead
  retiring := none
  arriving := none
  attempt := none
  closeStarted := false
  preShedMask := .ofFn fun _ => false
  stepPending := false
  result := .none
  recoverArmed := false
  needsGen := false
  retry := false
  preShedDone := false
  serial := 0

/-- What TSQ holds after device reset (R82, R181). -/
def resetTsq : Tsq where
  records := .ofFn fun _ => resetTransfer
  hold := false
  required := 0
  gbLossTimer := .off
  gbLost := false
  startUpDelay := .off
  startUpEnded := false
  reserveOrder := []
  autoStarted := .ofFn fun _ => false

/-- A slot record after device reset: STANDBY, or UNAVAILABLE if the slot is not enabled or its breaker is out of
service in the loaded settings (R127). READY is the level at the input. -/
def resetSlot (available ready : Bool) : SlotRec where
  state := if available then .standby else .unavailable
  demand := .none
  barred := false
  deferredStop := false
  ready := ready
  attempt := none
  setPoint := 500
  duty := 500
  fault := none
  timer := .off
  ramp := .off
  openDemanded := false
  unloadTimedOut := false

/-- The first bias period after reset: the loaded period and a duty of 500 on every output (R125). -/
def resetBias (periodUs : Nat) : Bias where
  start := 0
  period := periodUs * 10
  duties := .ofFn fun _ => 500
  high := .ofFn fun _ => true

/-- The breaker of a slot. -/
def slotBreaker : Slot → Breaker
  | .s1 => .g1
  | .s2 => .g2
  | .s3 => .g3
  | .s4 => .g4
  | .s5 => .g5
  | .s6 => .g6

/-- What GSC holds after device reset (R127). -/
def resetGsc (d : StoreData) (ready : PerSlot Bool) : Gsc where
  slots := .ofFn fun n =>
    resetSlot (d.common.slotEnabled.get n && !d.outOfService.get (slotBreaker n)) (ready.get n)
  required := 0
  bias := resetBias d.common.biasPeriod

/-- What LDM holds after device reset (R142). -/
def resetLdm : Ldm where
  blocks := .ofFn fun _ =>
    { state := .openOther, restoreRequested := false, lastShed := .none, restorePort := false }
  shedList := []
  restoreTimer := .off
  pacingStopped := false
  overload := .off
  uf := .ofFn fun _ => .off
  preShedOpens := .ofFn fun _ => []

/-- What PRU holds after device reset (R160). -/
def resetPru : Pru where
  records := .ofFn fun _ =>
    { bucket := 0, operated := false, instCount := 0, reverse := 0, failure := .off, backupWatch := false, m16 := 0 }
  buffer := { owner := none, curve := .c0, index := 0, entries := [] }

/-- A port context after device reset (R173); a window that is open then is discarded to its end. -/
def resetPort (windowOpen : Bool) : PortRec where
  role := .standby
  lapse := .off
  window := .n0
  assembly := []
  discarding := windowOpen
  response := none

/-- A key input after device reset: it counts as released until the level it holds has held for 50 ms (R164). -/
def resetKey (input : Bool) : KeyRec where
  level := false
  input := input
  timing := if input then .running 50 else .off
  fromReset := true

/-- What CPI holds after device reset (R173). -/
def resetCpi (keys : PerKey Bool) (windowOpen : PerPort Bool) : Cpi where
  ports := .ofFn fun p => resetPort (windowOpen.get p)
  keys := .ofFn fun k => resetKey (keys.get k)

/-- The store after device reset: loaded from a valid image, or the defaults with a write of the loaded image started
and every item unstored (R178). -/
def resetSst (image : StoreData) (intact : Bool) : Sst :=
  if intact then
    { working := image, image := image, write := none, unstored := ⟨false, []⟩, pendingLockouts := [] }
  else
    { working := defaultedStore, image := image,
      write := some { kind := .defaults, data := defaultedStore, start := 0 },
      unstored := ⟨true, []⟩, pendingLockouts := [] }

/-- The queue after device reset: DEVICE_RESET with sequence number 0 and timestamp 0, and, after defaults were loaded,
STORE_DEFAULTED directly after it; every cursor names sequence number 0 (R178, R180). -/
def resetErq (intact : Bool) : Erq where
  events :=
    { seq := 0, time := 0, kind := .deviceReset, subject := .none, cause := .none, value := 0 } ::
      if intact then []
      else [{ seq := 1, time := 0, kind := .storeDefaulted, subject := .none, cause := .none, value := 0 }]
  nextSeq := if intact then 1 else 2
  cursors := .ofFn fun _ => 0

/-- The levels at the inputs that the part reads as levels: auxiliary contacts, READY, the keys, and the ports'
chip-selects, each as whether a window is open. -/
structure InputLevels where
  closedMade : PerBreaker Bool
  openMade : PerBreaker Bool
  ready : PerSlot Bool
  keys : PerKey Bool
  windowOpen : PerPort Bool
  deriving DecidableEq, Repr, Inhabited

/-- What the blocks hold after device reset, from the stored image, the store's judgement of it and the input levels. -/
def resetControl (image : StoreData) (intact : Bool) (inp : InputLevels) : Control :=
  let d := if intact then image else defaultedStore
  { smn := resetSmn
    sye := resetSye
    bcu := .ofFn fun b => resetBreaker d.common.settleTime (inp.closedMade.get b) (inp.openMade.get b)
    tiu := resetTiu
    tsq := resetTsq
    gsc := resetGsc d inp.ready
    ldm := resetLdm
    pru := resetPru
    cpi := resetCpi inp.keys inp.windowOpen
    sst := resetSst image intact
    erq := resetErq intact
    notices := [] }

end Sys2Proof.Machine
end

