-- ==== Sys2Proof/Config.lean ====
section
/-! DEFINITION. What an implementation of the part fixes and the spec does not give: free values without a body, of which
no proof can see anything. Each is named in the assumption log. -/

namespace Sys2Proof.Config

open Sys2Proof.Machine

/-- The subject of an event whose rule names none and does not say that there is none, by kind and sequence number.
DESIGN CHOICE: assumption 9. -/
opaque unstatedSubject : EventKind → Word16 → Subject

/-- The cause of an event whose rule states no cause, by kind and sequence number. -/
opaque unstatedCause : EventKind → Word16 → Cause

/-- The value of an event whose rule states no value, by kind and sequence number. -/
opaque unstatedValue : EventKind → Word16 → Int

/-- The failure result of an operation whose deadline is reached while its breaker is observed at the target it never
left (a close cut before the contacts moved, R50 and R53), by breaker and time. DESIGN CHOICE: assumption 13. -/
opaque resultAtTarget : Breaker → Word32 → Cause

/-- The payload bytes of a READ_RECORD of table 0, from the record's fields encoded in their order: the record is longer
than 60 bytes, and spec/11 states no division of it. DESIGN CHOICE: assumption 12. -/
opaque imageBytes : List Byte → List Byte

/-- The byte that gives the assembly state of a port's window, from whether the window is being discarded and the bytes
assembled so far: R173 names the state and gives it no code. DESIGN CHOICE: assumption 52. -/
opaque assemblyByte : Bool → List Byte → Byte

/-- Whether a window is open at a port at a release of reset, by port and the number of releases before it.
DESIGN CHOICE: assumption 64. -/
opaque windowAtRelease : Port → Nat → Bool

/-- The bytes that another port's window has assembled at the moment of a read, by port and time: no command of the table
carries the bytes of a window that has not ended. DESIGN CHOICE: assumption 52. -/
opaque bytesUnderWay : Port → Word32 → List Byte

/-- The payload bytes of STATUS: R165 gives their content and no layout. DESIGN CHOICE: assumption 10. -/
opaque statusBytes : StatusInfo → List Byte

/-- The payload bytes of LIVENESS: R167 gives their content and no layout. -/
opaque livenessBytes : Role → Role → Option Nat → List Byte

/-- The range minimum and maximum SETTING_READ gives for a permutation item. DESIGN CHOICE: assumption 16. -/
opaque permutationRange : Item → Nat × Nat

/-- The byte of a name held in a record that has no code in spec/11 and no place in a state table, by its field and its
place among the field's values. DEDUCED: assumption 11. -/
opaque nameByte : String → Nat → Byte

end Sys2Proof.Config
end

