-- ==== Sys2Proof/Machine/Plant.lean ====
section
/-! DEFINITION. The fixed plant (spec/00, section 3): which nodes each breaker joins, and how breakers, slots, blocks,
buses and channels belong together. -/

namespace Sys2Proof.Machine

/-- The incoming side of a breaker; a feeder has none. -/
def breakerX : Breaker → Option Channel
  | .i1 => some .u1
  | .i2 => some .u2
  | .tie => some .bb
  | .ma => some .gb
  | .mb => some .gb
  | .g1 => some .g1
  | .g2 => some .g2
  | .g3 => some .g3
  | .g4 => some .g4
  | .g5 => some .g5
  | .g6 => some .g6
  | _ => none

/-- The running side of a breaker; a feeder's is its bus. -/
def breakerR : Breaker → Channel
  | .i1 | .tie | .ma | .f1 | .f2 | .f3 | .f4 => .ba
  | .i2 | .mb | .f5 | .f6 | .f7 | .f8 => .bb
  | .g1 | .g2 | .g3 | .g4 | .g5 | .g6 => .gb

/-- The joining breakers: every breaker but the feeders. -/
def joiningBreakers : List Breaker := [.i1, .i2, .tie, .ma, .mb, .g1, .g2, .g3, .g4, .g5, .g6]

/-- The slot a breaker belongs to, for G1 to G6. -/
def breakerSlot : Breaker → Option Slot
  | .g1 => some .s1
  | .g2 => some .s2
  | .g3 => some .s3
  | .g4 => some .s4
  | .g5 => some .s5
  | .g6 => some .s6
  | _ => none

/-- The block a breaker feeds, for F1 to F8. -/
def breakerBlock : Breaker → Option Block
  | .f1 => some .f1
  | .f2 => some .f2
  | .f3 => some .f3
  | .f4 => some .f4
  | .f5 => some .f5
  | .f6 => some .f6
  | .f7 => some .f7
  | .f8 => some .f8
  | _ => none

/-- The feeder of a block. -/
def blockBreaker : Block → Breaker
  | .f1 => .f1
  | .f2 => .f2
  | .f3 => .f3
  | .f4 => .f4
  | .f5 => .f5
  | .f6 => .f6
  | .f7 => .f7
  | .f8 => .f8

/-- The bus a block takes its load from. -/
def blockBus : Block → Bus
  | .f1 | .f2 | .f3 | .f4 => .ba
  | .f5 | .f6 | .f7 | .f8 => .bb

/-- The terminal channel of a slot's generator. -/
def slotChannel : Slot → Channel
  | .s1 => .g1
  | .s2 => .g2
  | .s3 => .g3
  | .s4 => .g4
  | .s5 => .g5
  | .s6 => .g6

/-- The slot whose terminal a channel is. -/
def channelSlot : Channel → Option Slot
  | .g1 => some .s1
  | .g2 => some .s2
  | .g3 => some .s3
  | .g4 => some .s4
  | .g5 => some .s5
  | .g6 => some .s6
  | _ => none

/-- The utility whose channel this is. -/
def channelUtility : Channel → Option Utility
  | .u1 => some .u1
  | .u2 => some .u2
  | _ => none

/-- The channel of a utility. -/
def utilityChannel : Utility → Channel
  | .u1 => .u1
  | .u2 => .u2

/-- The channel of a load bus. -/
def busChannel : Bus → Channel
  | .ba => .ba
  | .bb => .bb

/-- The channel of a bus that has a claim. -/
def claimChannel : ClaimBus → Channel
  | .ba => .ba
  | .bb => .bb
  | .gb => .gb

/-- The claim a bus node has. -/
def channelClaim : Channel → Option ClaimBus
  | .ba => some .ba
  | .bb => some .bb
  | .gb => some .gb
  | _ => none

/-- The other load bus. -/
def otherBus : Bus → Bus
  | .ba => .bb
  | .bb => .ba

/-- A load bus's own utility. -/
def ownUtility : Bus → Utility
  | .ba => .u1
  | .bb => .u2

/-- A load bus's own incomer I(L). -/
def ownIncomer : Bus → Breaker
  | .ba => .i1
  | .bb => .i2

/-- A load bus's own main M(L). -/
def ownMain : Bus → Breaker
  | .ba => .ma
  | .bb => .mb

/-- The claim bus of a load bus. -/
def busClaim : Bus → ClaimBus
  | .ba => .ba
  | .bb => .bb

/-- The backup set of a breaker (R157). -/
def backupSet : Breaker → List Breaker
  | .f1 | .f2 | .f3 | .f4 => [.i1, .tie, .ma]
  | .f5 | .f6 | .f7 | .f8 => [.i2, .tie, .mb]
  | .tie => [.i1, .i2, .ma, .mb]
  | .i1 => [.tie, .ma]
  | .i2 => [.tie, .mb]
  | .ma => [.i1, .tie, .g1, .g2, .g3, .g4, .g5, .g6]
  | .mb => [.i2, .tie, .g1, .g2, .g3, .g4, .g5, .g6]
  | .g1 => [.ma, .mb, .g2, .g3, .g4, .g5, .g6]
  | .g2 => [.ma, .mb, .g1, .g3, .g4, .g5, .g6]
  | .g3 => [.ma, .mb, .g1, .g2, .g4, .g5, .g6]
  | .g4 => [.ma, .mb, .g1, .g2, .g3, .g5, .g6]
  | .g5 => [.ma, .mb, .g1, .g2, .g3, .g4, .g6]
  | .g6 => [.ma, .mb, .g1, .g2, .g3, .g4, .g5]

end Sys2Proof.Machine
end

