-- ==== Sys2Proof/Machine/Ops.lean ====
section
/-! DEFINITION. The named operations on which every block builds: deadlines and timers, the event queue, the notices
between blocks, and reading and replacing one record of a table. -/

namespace Sys2Proof.Machine

/-! ## Deadlines and timers -/

/-- A deadline in ms: the counter's value now plus a length, modulo 2^32 (R180). -/
def deadlineAfter (now : Word32) (len : Nat) : Word32 := now + BitVec.ofNat 32 len

/-- Whether a counter has come to a deadline (R180: no length reaches 2^31, so the two halves of the circle tell a
deadline that is still to come from one that has been reached). -/
def reached (deadline now : Word32) : Bool := (now - deadline).toNat < 2147483648

/-- The time left to a deadline, modulo 2^32, and 0 once it is reached (R180). DEDUCED: assumption 76. -/
def timeLeft (deadline now : Word32) : Nat := if reached deadline now then 0 else (deadline - now).toNat

/-- A timer started now. -/
def Timer.start (now : Word32) (len : Nat) : Timer := .running (deadlineAfter now len)

/-- A timer started now, or held with its whole length if timers of its kind are suspended or frozen. -/
def Timer.startOr (frozen : Bool) (now : Word32) (len : Nat) : Timer :=
  if frozen then .held len else .start now len

/-- Whether a timer runs and has reached its end. DESIGN CHOICE: assumption 2. -/
def Timer.due (t : Timer) (now : Word32) : Bool :=
  match t with
  | .running d => reached d now
  | _ => false

/-- Whether a timer is started, running or held. -/
def Timer.active : Timer → Bool
  | .off => false
  | _ => true

/-- A running timer suspended with the time it has left. -/
def Timer.suspend (t : Timer) (now : Word32) : Timer :=
  match t with
  | .running d => .held (timeLeft d now)
  | t => t

/-- A held timer resumed with the time it had left. -/
def Timer.resume (t : Timer) (now : Word32) : Timer :=
  match t with
  | .held r => .start now r
  | t => t

/-- The remaining time of a timer, if it is started. -/
def Timer.remaining (t : Timer) (now : Word32) : Option Nat :=
  match t with
  | .off => none
  | .running d => some (timeLeft d now)
  | .held r => some r

/-- The value of the millisecond counter. -/
def Sensed.now (e : Sensed) : Word32 := e.clock.ms

/-- The clock some ticks of the reference later: the timebase counts each tick, the millisecond counter every 10,000
(R7, R180). -/
def Clock.advance (c : Clock) (ticks : Nat) : Clock where
  timebase := c.timebase + BitVec.ofNat 32 ticks
  subMs := (c.subMs + ticks) % 10000
  ms := c.ms + BitVec.ofNat 32 ((c.subMs + ticks) / 10000)

/-! ## Settings -/

/-- The working values of the common items. -/
def Control.common (k : Control) : CommonSettings := k.sst.working.common

/-- The working values of the active group's items. -/
def Control.group (k : Control) : GroupSettings := k.sst.working.group

/-- Whether a breaker is out of service (R61). -/
def Control.outOfService (k : Control) (b : Breaker) : Bool := k.sst.working.outOfService.get b

/-- The lockout of a breaker. -/
def Control.lockout (k : Control) (b : Breaker) : Lockout := k.sst.working.lockout.get b

/-! ## Records -/

/-- One breaker record. -/
def Control.breaker (k : Control) (b : Breaker) : BreakerRec := k.bcu.get b

/-- One breaker record changed. -/
def Control.modBreaker (k : Control) (b : Breaker) (f : BreakerRec → BreakerRec) : Control :=
  { k with bcu := k.bcu.modify b f }

/-- One attempt slot. -/
def Control.attempt (k : Control) (n : AttemptNo) : Option Attempt := k.sye.slots.get n

/-- One attempt slot written. -/
def Control.setAttempt (k : Control) (n : AttemptNo) (a : Attempt) : Control :=
  { k with sye := { k.sye with slots := k.sye.slots.set n (some a) } }

/-- One claim record. -/
def Control.claim (k : Control) (c : ClaimBus) : Claim := k.tiu.claims.get c

/-- One claim record written. -/
def Control.setClaim (k : Control) (c : ClaimBus) (v : Claim) : Control :=
  { k with tiu := { k.tiu with claims := k.tiu.claims.set c v } }

/-- One transfer record. -/
def Control.xfer (k : Control) (l : Bus) : TransferRec := k.tsq.records.get l

/-- One transfer record changed. -/
def Control.modXfer (k : Control) (l : Bus) (f : TransferRec → TransferRec) : Control :=
  { k with tsq := { k.tsq with records := k.tsq.records.modify l f } }

/-- One slot record. -/
def Control.slot (k : Control) (n : Slot) : SlotRec := k.gsc.slots.get n

/-- One slot record changed. -/
def Control.modSlot (k : Control) (n : Slot) (f : SlotRec → SlotRec) : Control :=
  { k with gsc := { k.gsc with slots := k.gsc.slots.modify n f } }

/-- One load block record. -/
def Control.blockRec (k : Control) (f : Block) : BlockRec := k.ldm.blocks.get f

/-- One load block record changed. -/
def Control.modBlock (k : Control) (f : Block) (g : BlockRec → BlockRec) : Control :=
  { k with ldm := { k.ldm with blocks := k.ldm.blocks.modify f g } }

/-- One protection record. -/
def Control.prot (k : Control) (b : Breaker) : ProtectionRec := k.pru.records.get b

/-- One protection record changed. -/
def Control.modProt (k : Control) (b : Breaker) (f : ProtectionRec → ProtectionRec) : Control :=
  { k with pru := { k.pru with records := k.pru.records.modify b f } }

/-- One port context. -/
def Control.port (k : Control) (p : Port) : PortRec := k.cpi.ports.get p

/-- One port context changed. -/
def Control.modPort (k : Control) (p : Port) (f : PortRec → PortRec) : Control :=
  { k with cpi := { k.cpi with ports := k.cpi.ports.modify p f } }

/-- One key input changed. -/
def Control.modKey (k : Control) (key : Key) (f : KeyRec → KeyRec) : Control :=
  { k with cpi := { k.cpi with keys := k.cpi.keys.modify key f } }

/-! ## Notices and events -/

/-- Tell other blocks: the notices are taken up in this order, after what is already told. -/
def Control.tell (k : Control) (ns : List Notice) : Control := { k with notices := k.notices ++ ns }

/-- The queue with a record appended (R179): a full queue loses its oldest record first, and a cursor that named that
record names the new oldest one. -/
def Erq.append (q : Erq) (time : Word32) (kind : EventKind) (subject : Subject) (cause : Cause) (value : Int) : Erq :=
  let rec' : Event := { seq := q.nextSeq, time := time, kind := kind, subject := subject, cause := cause, value := value }
  if q.events.length < 128 then
    { q with events := q.events ++ [rec'], nextSeq := q.nextSeq + 1 }
  else
    match q.events with
    | [] => { q with events := [rec'], nextSeq := q.nextSeq + 1 }
    | old :: rest =>
      { events := rest ++ [rec']
        nextSeq := q.nextSeq + 1
        cursors := .ofFn fun p => if q.cursors.get p = old.seq then old.seq + 1 else q.cursors.get p }

/-- Record an event (R179). -/
def Control.record (e : Sensed) (k : Control) (kind : EventKind) (subject : Subject) (cause : Cause) (value : Int) :
    Control :=
  { k with erq := k.erq.append e.now kind subject cause value }

/-- Record an event whose rule states its subject and value and no cause. -/
def Control.recordNoCause (e : Sensed) (k : Control) (kind : EventKind) (subject : Subject) (value : Int) : Control :=
  k.record e kind subject (Config.unstatedCause kind k.erq.nextSeq) value

/-- Record an event whose rule states its subject and neither cause nor value. -/
def Control.recordSubject (e : Sensed) (k : Control) (kind : EventKind) (subject : Subject) : Control :=
  k.record e kind subject (Config.unstatedCause kind k.erq.nextSeq) (Config.unstatedValue kind k.erq.nextSeq)

/-- Record an event of which the rule states the kind alone. -/
def Control.recordKind (e : Sensed) (k : Control) (kind : EventKind) : Control :=
  k.recordSubject e kind (Config.unstatedSubject kind k.erq.nextSeq)

/-- Apply an operation for each member of a list, in order. -/
def forEach {α : Type} (l : List α) (f : α → Control → Control) (k : Control) : Control :=
  l.foldl (fun k a => f a k) k

end Sys2Proof.Machine
end

