-- ==== Sys2Proof/Machine/Flags.lean ====
section
/-! DEFINITION. Everything a block derives at the moment it needs it and does not store: voltage classes, band tests,
connectivity, capacities, authority, unread counts and the outputs that follow a record. -/

namespace Sys2Proof.Machine

/-! ## Measurement -/

/-- The class of a channel, and of the node of the same name (R15). -/
def classOf (e : Sensed) (k : Control) (c : Channel) : VClass :=
  let v := e.mlr.image.volt.get c
  if !e.mlr.fresh then .indeterminate
  else if k.common.liveThreshold ≤ v && (e.pcu.get c).state = .tracking then .live
  else if v ≤ k.common.deadThreshold then .dead
  else .indeterminate

/-- Whether a node is live. -/
def isLive (e : Sensed) (k : Control) (c : Channel) : Bool := classOf e k c = .live

/-- The first band condition that fails for a utility, if any does (R17). -/
def bandFailure (e : Sensed) (k : Control) (u : Utility) : Option Cause :=
  let c := utilityChannel u
  let v := e.mlr.image.volt.get c
  let f := (e.pcu.get c).freq
  if (e.pcu.get c).state ≠ .tracking then some .notTracking
  else if v < k.group.uvPickup then some .undervoltage
  else if k.group.ovPickup < v then some .overvoltage
  else if f < k.group.ufPickup then some .underfrequency
  else if k.group.ofPickup < f then some .overfrequency
  else none

/-! ## Breakers -/

/-- The state a contact combination shows (R43). -/
def contactState (closedMade openMade : Bool) : Observed :=
  match closedMade, openMade with
  | false, true => .opened
  | true, false => .closed
  | false, false => .travel
  | true, true => .invalid

/-- The target of an operation (section 3.3). -/
def OpKind.target : OpKind → Observed
  | .close => .closed
  | .opening | .trip => .opened

/-- The number of a kind in OPERATION_FAILED (R50). -/
def OpKind.number : OpKind → Nat
  | .close => 1
  | .opening => 2
  | .trip => 3

/-- The cause of a close or open demand, from its party and, for a port, the breaker's service state (R42). -/
def demandCause (k : Control) (b : Breaker) : Party → Cause
  | .port _ => if k.outOfService b then .test else .operator
  | .transfer _ => .transfer
  | .gen _ => .generator
  | .load => .load
  | .protection => .protection
  | .overlap => .overlap

/-- Whether a reservation holder is this party (R46): a port matches its own reservation, with or without an attempt. -/
def Holder.isParty (h : Holder) (p : Party) : Bool :=
  match h, p with
  | .transfer l, .transfer l' => l = l'
  | .gen n, .gen n' => n = n'
  | .load, .load => true
  | .port q _, .port q' => q = q'
  | _, _ => false

/-- The party of an attempt's requester. -/
def Requester.party : Requester → Party
  | .transfer l => .transfer l
  | .gen n => .gen n
  | .port p => .port p

/-- Whether a party must hold the reservation to close (R46, order 5). -/
def Party.mustHold : Party → Bool
  | .transfer _ | .gen _ | .load => true
  | _ => false

/-- The reservation test of R46, order 5, and R69: whether it refuses the party. -/
def reservedAgainst (k : Control) (b : Breaker) (p : Party) : Bool :=
  match (k.breaker b).holder with
  | some h => !h.isParty p
  | none => p.mustHold

/-- Whether the breaker is usable as a transfer's arriving breaker: in service, not locked out, not close-blocked
(R87). -/
def usable (k : Control) (b : Breaker) : Bool :=
  !k.outOfService b && !(k.lockout b).flag && !(k.breaker b).closeBlocked

/-- The transfer that has reserved a breaker, if one has. -/
def reservingTransfer (k : Control) (b : Breaker) : Option TransferMark :=
  match (k.breaker b).holder with
  | some (.transfer l) => some ⟨l, (k.xfer l).serial⟩
  | _ => none

/-- Which of its bus's transfers a party is, 0 for another party. -/
def Party.serial (k : Control) : Party → Nat
  | .transfer l => (k.xfer l).serial
  | _ => 0

/-- Whether a transfer is in progress still: its record has neither ended nor been taken by a later one (R102). -/
def stillRuns (k : Control) (t : TransferMark) : Bool :=
  (k.xfer t.bus).inProgress && (k.xfer t.bus).serial = t.serial

/-! ## Connectivity -/

/-- Whether a CLOSE is in flight on a breaker. -/
def closing (k : Control) (b : Breaker) : Bool :=
  match (k.breaker b).op with
  | some op => op.kind = .close
  | none => false

/-- Whether a joining breaker is possibly closed (R65). -/
def possiblyClosed (k : Control) (b : Breaker) : Bool :=
  (breakerX b).isSome && !k.outOfService b && ((k.breaker b).observed ≠ .opened || closing k b)

/-- The group labels with the groups of two nodes merged under the lower label. -/
def mergeLabels (t : PerChannel Nat) (x r : Channel) : PerChannel Nat :=
  let a := t.get x
  let b := t.get r
  if a = b then t else .ofFn fun c => if t.get c = a || t.get c = b then min a b else t.get c

/-- The source group of each node, named by the lowest channel index among the group's nodes (R66). -/
def groupLabels (k : Control) : PerChannel Nat :=
  joiningBreakers.foldl
    (fun t b => match breakerX b with
      | some x => if possiblyClosed k b then mergeLabels t x (breakerR b) else t
      | none => t)
    (.ofFn Channel.index)

/-- A source set: which source kinds a group contains (R66). -/
structure SourceSet where
  u1 : Bool
  u2 : Bool
  gen : Bool
  deriving DecidableEq, Repr, Inhabited

/-- The number of kinds in a source set. -/
def SourceSet.size (s : SourceSet) : Nat := s.u1.toNat + s.u2.toNat + s.gen.toNat

/-- The union of two source sets. -/
def SourceSet.union (s t : SourceSet) : SourceSet := ⟨s.u1 || t.u1, s.u2 || t.u2, s.gen || t.gen⟩

/-- The source set of the group with a label (R66). -/
def sourceSetOf (t : PerChannel Nat) (label : Nat) : SourceSet where
  u1 := t.u1 = label
  u2 := t.u2 = label
  gen := t.g1 = label || t.g2 = label || t.g3 = label || t.g4 = label || t.g5 = label || t.g6 = label

/-- The source set of the group that contains a node. -/
def nodeSources (k : Control) (c : Channel) : SourceSet :=
  let t := groupLabels k
  sourceSetOf t (t.get c)

/-- The nodes of the group with a label. -/
def groupNodes (t : PerChannel Nat) (label : Nat) : PerChannel Bool := .ofFn fun c => t.get c = label

/-- The labels of the mixed groups, lowest first (R66). -/
def mixedLabels (t : PerChannel Nat) : List Nat :=
  (Channel.all.map Channel.index).filter fun i =>
    Channel.all.any (fun c => t.get c = i) && 1 < (sourceSetOf t i).size

/-- The supply state of a bus whose group has this source set (R67). -/
def supplyOf (l : Bus) (s : SourceSet) : Supply :=
  let own := match l with
    | .ba => s.u1
    | .bb => s.u2
  if 1 < s.size then .parallel
  else if s.gen then .gen
  else if own then .utility
  else if s.size = 1 then .tie
  else .dead

/-- Whether some load bus is in GEN. -/
def someBusInGen (k : Control) : Bool := k.tiu.supply.ba = .gen || k.tiu.supply.bb = .gen

/-! ## Attempts and claims -/

/-- Whether an attempt is in progress (R24). -/
def Attempt.inProgress (a : Attempt) : Bool := a.state ≠ .ended

/-- The attempt in progress on a breaker, if there is one (R24). -/
def attemptOn (k : Control) (b : Breaker) : Option AttemptNo :=
  AttemptNo.all.find? fun n => match k.attempt n with
    | some a => a.inProgress && a.breaker = b
    | none => false

/-- The attempt in progress for a requester, if there is one. -/
def attemptFor (k : Control) (r : Requester) : Option AttemptNo :=
  AttemptNo.all.find? fun n => match k.attempt n with
    | some a => a.inProgress && a.requester = r
    | none => false

/-- Whether an attempt is in CLOSE_ISSUED. -/
def closeIssued (k : Control) (n : Option AttemptNo) : Bool :=
  match n with
  | some n => match k.attempt n with
    | some a => a.state = .closeIssued
    | none => false
  | none => false

/-- Whether an attempt is in EVALUATING. -/
def evaluating (k : Control) (n : Option AttemptNo) : Bool :=
  match n with
  | some n => match k.attempt n with
    | some a => a.state = .evaluating
    | none => false
  | none => false

/-- Whether a party holds the claim of a bus for a breaker. -/
def holdsClaim (k : Control) (c : ClaimBus) (b : Breaker) (p : Party) : Bool :=
  match (k.claim c).holder with
  | some h => h.breaker = b && h.party = p
  | none => false

/-- The claim a party holds for a breaker with its close not started, if it holds one. -/
def unstartedClaim (k : Control) (b : Breaker) (p : Party) : Option ClaimBus :=
  ClaimBus.all.find? fun c => match (k.claim c).holder with
    | some h => h.breaker = b && h.party = p && !h.started
    | none => false

/-- Whether a party has a claim request waiting for a breaker on a bus. -/
def waitsForClaim (k : Control) (c : ClaimBus) (b : Breaker) (p : Party) : Bool :=
  (k.claim c).waiting.any fun r => r.breaker = b && r.party = p

/-- Whether a party has a claim request waiting for a breaker, or holds a claim for it, on a bus. -/
def hasClaimRequest (k : Control) (c : ClaimBus) (b : Breaker) (p : Party) : Bool :=
  holdsClaim k c b p || waitsForClaim k c b p

/-- The ports with a claim request for a breaker, waiting or holding. -/
def claimingPorts (k : Control) (b : Breaker) : List Port :=
  Port.all.filter fun q => ClaimBus.all.any fun c => hasClaimRequest k c b (.port q)

/-! ## Generators and blocks -/

/-- Whether a slot counts in the committed rating (R111). -/
def SlotState.committed : SlotState → Bool
  | .starting | .awaitingBus | .synchronizing | .closing | .online => true
  | _ => false

/-- The sum of the ratings of the slots that meet a test. -/
def ratingSum (k : Control) (test : SlotState → Bool) : Nat :=
  (Slot.all.map fun n => if test (k.slot n).state then k.common.rating.get n else 0).sum

/-- The committed rating (R111). -/
def committedRating (k : Control) : Nat := ratingSum k SlotState.committed

/-- The capacity online (R119). -/
def capacityOnline (k : Control) : Nat := ratingSum k fun s => s = .online

/-- The generator load: the powers in the image of the generators whose slots are ONLINE (R133). -/
def generatorLoad (e : Sensed) (k : Control) : Int :=
  (Slot.all.map fun n => if (k.slot n).state = .online then e.mlr.image.power.get n else 0).sum

/-- Whether a slot is enabled and in a state other than UNAVAILABLE and FAILED (R87, order 3). -/
def slotUsable (k : Control) (n : Slot) : Bool :=
  k.common.slotEnabled.get n && (k.slot n).state ≠ .unavailable && (k.slot n).state ≠ .failed

/-- Whether some slot is usable (R87, order 3). -/
def someSlotUsable (k : Control) : Bool := Slot.all.any (slotUsable k)

/-- The start-demand output of a slot (R109). -/
def startDemand (k : Control) (n : Slot) : Bool := (k.slot n).demand ≠ .none

/-- Whether a block is GB-fed (R128). -/
def gbFed (k : Control) (f : Block) : Bool :=
  (k.blockRec f).state = .connected && k.tiu.supply.get (blockBus f) = .gen

/-- The sum of the estimates of some blocks, in kW. -/
def estimateSum (k : Control) (fs : List Block) : Nat := (fs.map fun f => k.common.estimate.get f).sum

/-- The required capacity (R97): the estimates of every GB-fed block and of every CONNECTED block on a bus whose
transfer needs GEN. -/
def requiredCapacity (k : Control) : Nat :=
  estimateSum k (Block.all.filter fun f =>
    (k.blockRec f).state = .connected &&
      (k.tiu.supply.get (blockBus f) = .gen || (k.xfer (blockBus f)).needsGen))

/-! ## Ports and events -/

/-- The port that is ACTIVE, if one is. -/
def activePort (k : Control) : Option Port :=
  if k.cpi.ports.cpA.role = .active then some .cpA
  else if k.cpi.ports.cpB.role = .active then some .cpB
  else none

/-- The authority holder (R163): CP-P while the local key is asserted, otherwise the ACTIVE port. -/
def authorityHolder (k : Control) : Option Port :=
  if k.cpi.keys.localKey.level then some .cpP else activePort k

/-- A port's unread count (R171). -/
def unread (k : Control) (p : Port) : Nat := (k.erq.nextSeq - k.erq.cursors.get p).toNat

/-- A port's attention line (R171, R173: released while reset is asserted). -/
def attention (inReset : Bool) (k : Control) (p : Port) : Bool := !inReset && 0 < unread k p

/-! ## Outputs that follow a record -/

/-- Whether a lockout cause is an escalation cause (R154). -/
def Cause.escalation : Cause → Bool
  | .breakerFailure | .backupFailed => true
  | _ => false

/-- The incomer whose lockout an upstream-trip output follows. -/
def utilityIncomer : Utility → Breaker
  | .u1 => .i1
  | .u2 => .i2

/-- An upstream-trip output, U1UT or U2UT (R159; released while reset is asserted, R160). -/
def upstreamTrip (inReset : Bool) (k : Control) (u : Utility) : Bool :=
  let l := k.lockout (utilityIncomer u)
  !inReset && l.flag && l.cause.escalation

end Sys2Proof.Machine
end

