-- ==== Sys2Proof/Machine/StoreOps.lean ====
section
/-! DEFINITION. What SST does for the other blocks (spec/10, R174 to R176): nonvolatile writes and the unstored
indications. -/

namespace Sys2Proof.Machine

/-- Whether a value is unstored (R174). -/
def Unstored.has (u : Unstored) (r : ItemRef) : Bool := if u.except.contains r then !u.base else u.base

/-- The unstored indication of a value set or cleared. -/
def Unstored.put (u : Unstored) (r : ItemRef) (flag : Bool) : Unstored :=
  if flag = u.base then { u with except := u.except.filter (· ≠ r) }
  else if u.except.contains r then u
  else { u with except := r :: u.except }

/-- The lockouts of some breakers copied from one set of data into another. -/
def copyLockouts (src dst : StoreData) (bs : List Breaker) : StoreData :=
  { dst with lockout := bs.foldl (fun t b => t.set b (src.lockout.get b)) dst.lockout }

/-- What the image holds once a write of this kind verifies: the old image with the values the write takes, as they
stand in the working copy (R176). -/
def Sst.writeData (s : Sst) : WriteKind → StoreData
  | .setting _ r => s.image.writeItem r.group r.item r.unit (s.working.readItem r.group r.item r.unit)
  | .service b => { s.image with outOfService := s.image.outOfService.set b (s.working.outOfService.get b) }
  | .curve _ c => { s.image with curves := s.image.curves.set c (s.working.curves.get c) }
  | .group _ _ => { s.image with active := s.working.active }
  | .lockout bs => copyLockouts s.working s.image bs
  | .defaults => s.working

/-- Whether a nonvolatile write is in flight. -/
def Control.storeBusy (k : Control) : Bool := k.sst.write.isSome

/-- Start a nonvolatile write (R176). -/
def Control.startWrite (e : Sensed) (k : Control) (kind : WriteKind) : Control :=
  { k with sst := { k.sst with
      write := some { kind := kind, data := k.sst.writeData kind, start := e.now }
      unstored := match kind with
        | .setting _ r => k.sst.unstored.put r true
        | _ => k.sst.unstored } }

/-- A set of breakers in ascending index with one more member. -/
def insertBreaker (b : Breaker) : List Breaker → List Breaker
  | [] => [b]
  | a :: l =>
    if b.index < a.index then b :: a :: l
    else if b = a then a :: l
    else a :: insertBreaker b l

/-- A lockout change handed over by PRU (R154, R176): written at once, or after the write in flight. -/
def Control.handLockout (e : Sensed) (k : Control) (b : Breaker) : Control :=
  if k.storeBusy then
    { k with sst := { k.sst with pendingLockouts := insertBreaker b k.sst.pendingLockouts } }
  else k.startWrite e (.lockout [b])

/-- The working lockout of a breaker replaced. -/
def Control.putLockout (k : Control) (b : Breaker) (l : Lockout) : Control :=
  { k with sst := { k.sst with working := { k.sst.working with lockout := k.sst.working.lockout.set b l } } }

/-- The working common items replaced. -/
def Control.putWorking (k : Control) (d : StoreData) : Control := { k with sst := { k.sst with working := d } }

/-- The events of a failed verify (R176): one STORE_FAULT, or one for each breaker of a lockout write in ascending
index. -/
def Control.storeFaults (e : Sensed) (k : Control) : WriteKind → Control
  | .setting p r => k.record e .storeFault (.port p) .setting r.item.code
  | .service b => k.record e .storeFault (.breaker b) .service b.index
  | .curve p c => k.record e .storeFault (.port p) .curve c.index
  | .group p g => k.record e .storeFault (.port p) .group g.index
  | .lockout bs => forEach bs (fun b k => k.record e .storeFault (.breaker b) .lockout b.index) k
  | .defaults => k.record e .storeFault .none .defaults 0

/-- The stored copy after a write has verified: the image holds the new values and their unstored indications are
clear. -/
def Sst.stored (s : Sst) (w : Write) : Sst :=
  { s with
    image := w.data
    unstored := match w.kind with
      | .setting _ r => s.unstored.put r false
      | .defaults => ⟨false, []⟩
      | _ => s.unstored }

/-- The pending lockout set taken up by one new write, if it is not empty (R176). -/
def Control.writePending (e : Sensed) (k : Control) : Control :=
  match k.sst.pendingLockouts with
  | [] => k
  | bs => ({ k with sst := { k.sst with pendingLockouts := [] } } : Control).startWrite e (.lockout bs)

/-- The completion of the write in flight (R176). -/
def Control.completeWrite (e : Sensed) (k : Control) (w : Write) (verified : Bool) : Control :=
  let k1 : Control :=
    if verified then { k with sst := { k.sst.stored w with write := none } }
    else ({ k with sst := { k.sst with write := none } } : Control).storeFaults e w.kind
  k1.writePending e

end Sys2Proof.Machine
end

