-- ==== Sys2Proof/Machine/ProtectionOps.lean ====
section
/-! DEFINITION. What PRU does at BCU's notices (spec/08, R153, R154, R156, R158): lockout, failure timer, backup
watch. -/

namespace Sys2Proof.Machine

/-- A lockout flag or cause changed (R154): the working value, LOCKOUT_SET, and the hand-over to the store. -/
def Control.changeLockout (e : Sensed) (k : Control) (b : Breaker) (c : Cause) : Control :=
  ((k.putLockout b ⟨true, c⟩).record e .lockoutSet (.breaker b) c 0).handLockout e b

/-- Set a breaker's lockout with a cause (R154): a first cause stands until an escalation cause replaces it, and an
escalation cause stands until the lockout is reset. -/
def Control.setLockout (e : Sensed) (k : Control) (b : Breaker) (c : Cause) : Control :=
  let old := k.lockout b
  if !old.flag then k.changeLockout e b c
  else if old.cause.escalation then k
  else if c.escalation then k.changeLockout e b c
  else k

/-- Start a breaker's failure timer, unless it runs (R156). -/
def Control.startFailure (e : Sensed) (k : Control) (b : Breaker) : Control :=
  if (k.prot b).failure.active then k
  else k.modProt b fun r => { r with failure := .start e.now k.group.failureTime }

/-- BCU's notice of a trip taken (R153, R158). A BACKUP trip on a breaker observed OPEN sets no watch, even where it cut a
CLOSE. DESIGN CHOICE: assumption 59. -/
def Control.tripTaken (e : Sensed) (k : Control) (b : Breaker) (c : Cause) : Control :=
  match c with
  | .overcurrent | .instantaneous =>
    let k1 := if k.group.lockoutOnTrip.get b then k.setLockout e b c else k
    k1.startFailure e b
  | .reversePower | .overlapExceeded => (k.setLockout e b c).startFailure e b
  | .backup =>
    let k1 := k.setLockout e b .backup
    if (k.breaker b).observed = .opened then k1 else k1.modProt b fun r => { r with backupWatch := true }
  | _ => k

/-- The end of the operation that a backup watch follows (R158). -/
def Control.watchEnded (e : Sensed) (k : Control) (b : Breaker) (fin : OpEnd) : Control :=
  if !(k.prot b).backupWatch then k
  else match fin with
    | .failed result =>
      let k1 := (k.setLockout e b .backupFailed).modProt b fun r => { r with backupWatch := false }
      k1.record e .backupFailed (.breaker b) result (if b = .i1 || b = .i2 then 1 else 0)
    | _ => k.modProt b fun r => { r with backupWatch := false }

end Sys2Proof.Machine
end

