-- ==== Sys2Proof/Machine/TopologyOps.lean ====
section
/-! DEFINITION. What TIU does at each recomputation of the groups and to the dead-bus claims (spec/04, R65 to R68 and
R75 to R80). -/

namespace Sys2Proof.Machine

/-! ## Reservations -/

/-- Release a reservation (R60): ignored unless the releasing party holds it. -/
def Control.releaseReservation (k : Control) (b : Breaker) (h : Holder) : Control :=
  if (k.breaker b).holder = some h then
    (k.modBreaker b fun r => { r with holder := none }).tell [.released b]
  else k

/-! ## Claims -/

/-- Whether a claim may be granted (R76): the image is FRESH, the bus dead, and its group without a source node. -/
def grantable (e : Sensed) (k : Control) (c : ClaimBus) : Bool :=
  e.mlr.fresh && classOf e k (claimChannel c) = .dead && (nodeSources k (claimChannel c)).size = 0

/-- The deadline at which a grant lapses (R76). -/
def lapseDeadline (e : Sensed) (k : Control) (b : Breaker) : Word32 :=
  deadlineAfter e.now (k.common.operateLimit.get b + 1000)

/-- Grant a claim to the head of its waiting list, if it is free and may be granted (R76). -/
def Control.tryGrant (e : Sensed) (k : Control) (c : ClaimBus) : Control :=
  match (k.claim c).holder, (k.claim c).waiting with
  | none, r :: rest =>
    if grantable e k c then
      let h : ClaimHolder :=
        { breaker := r.breaker, party := r.party, grant := e.now, lapse := lapseDeadline e k r.breaker, started := false }
      ((k.setClaim c { holder := some h, waiting := rest }).record e .claimGranted (.bus c) .none r.breaker.index).tell
        [.claimGranted c r.breaker r.party]
    else k
  | _, _ => k

/-- The claim's holder is a port whose close has not started: TIU is to demand that close again (R77). -/
def portHolderWaits (k : Control) (c : ClaimBus) : Bool :=
  match (k.claim c).holder with
  | some h => !h.started && (match h.party with
    | .port _ => true
    | _ => false)
  | none => false

/-- One occasion of R76 for a claim: a grant, or a port holder's close to be demanded again (R77). -/
def Control.claimOccasion (e : Sensed) (k : Control) (c : ClaimBus) : Control :=
  if portHolderWaits k c then k.tell [.portClaimDemand c] else k.tryGrant e c

/-- One occasion of R76 for every claim, in the order BA, BB, GB. DESIGN CHOICE: assumption 91. -/
def Control.claimOccasions (e : Sensed) (k : Control) : Control :=
  forEach ClaimBus.all (fun c k => k.claimOccasion e c) k

/-- Steps 2 to 4 of R78 for a request that has been removed: the event, the party, a port's reservation. -/
def Control.claimLeft (e : Sensed) (k : Control) (c : ClaimBus) (b : Breaker) (p : Party) (cause : Cause) : Control :=
  let k1 := (k.record e .claimEnded (.bus c) cause b.index).tell [.claimEnded c b p cause]
  match p with
  | .port q => if cause = .withdrawn then k1 else k1.releaseReservation b (.port q none)
  | _ => k1

/-- End a claim's holder (R78). -/
def Control.endHolder (e : Sensed) (k : Control) (c : ClaimBus) (cause : Cause) : Control :=
  match (k.claim c).holder with
  | some h =>
    ((k.setClaim c { k.claim c with holder := none }).claimLeft e c h.breaker h.party cause).tryGrant e c
  | none => k

/-- End the waiting request of a breaker (R78). -/
def Control.endWaiting (e : Sensed) (k : Control) (c : ClaimBus) (b : Breaker) (cause : Cause) : Control :=
  match (k.claim c).waiting.find? (fun r => r.breaker = b) with
  | some r =>
    (k.setClaim c { k.claim c with waiting := (k.claim c).waiting.filter fun r => r.breaker ≠ b }).claimLeft e c b
      r.party cause
  | none => k

/-- End every request a party has for a breaker, waiting or holding (R78), in the order BA, BB, GB.
DESIGN CHOICE: assumption 91. -/
def Control.endClaims (e : Sensed) (k : Control) (b : Breaker) (p : Party) (cause : Cause) : Control :=
  forEach ClaimBus.all
    (fun c k =>
      let k1 := if waitsForClaim k c b p then k.endWaiting e c b cause else k
      if holdsClaim k1 c b p then k1.endHolder e c cause else k1)
    k

/-- The claim a close was serving ends with that close (R78). -/
def Control.claimServed (e : Sensed) (k : Control) (b : Breaker) (cause : Cause) : Control :=
  forEach ClaimBus.all
    (fun c k => match (k.claim c).holder with
      | some h => if h.breaker = b && h.started then k.endHolder e c cause else k
      | none => k)
    k

/-- The claim its party holds for a breaker is marked started (R77). -/
def Control.markStarted (k : Control) (b : Breaker) (p : Party) : Control :=
  forEach ClaimBus.all
    (fun c k => match (k.claim c).holder with
      | some h =>
        if h.breaker = b && h.party = p then k.setClaim c { k.claim c with holder := some { h with started := true } }
        else k
      | none => k)
    k

/-- A request placed in a waiting list (R75): at the tail, but among the requests that joined at the same instant in
ascending breaker index. -/
def placeRequest (r : ClaimRequest) : List ClaimRequest → List ClaimRequest
  | [] => [r]
  | x :: l =>
    if x.arrival = r.arrival && r.breaker.index < x.breaker.index then r :: x :: l else x :: placeRequest r l

/-- The place of a breaker's request in a waiting list, 1 for the oldest (R75). -/
def requestPlace (b : Breaker) (l : List ClaimRequest) : Nat := (l.findIdx fun r => r.breaker = b) + 1

/-- A claim request joins (R75); the answer carries its place, 1 for the oldest waiting, 0 for the holder. An instant is
one value of the millisecond counter. DEDUCED: assumption 20. -/
def Control.requestClaim (e : Sensed) (k : Control) (c : ClaimBus) (b : Breaker) (p : Party) : Control × Answer :=
  let cl := k.claim c
  let held := match cl.holder with
    | some h => decide (h.breaker = b)
    | none => false
  if held then (k, .claim 0)
  else if cl.waiting.any (fun r => r.breaker = b) then (k, .claim (requestPlace b cl.waiting))
  else
    let k1 := match p with
      | .port q => k.modBreaker b fun r => { r with holder := some (.port q none) }
      | _ => k
    let joined := placeRequest { breaker := b, party := p, arrival := e.now } cl.waiting
    ((k1.setClaim c { cl with waiting := joined }).claimOccasion e c, .claim (requestPlace b joined))

/-- The change of a bus to live (R79): its waiting requests from the head, then its holder unless started. -/
def Control.busLive (e : Sensed) (k : Control) (c : ClaimBus) : Control :=
  let k1 := forEach ((k.claim c).waiting.map fun r => r.breaker) (fun b k => k.endWaiting e c b .busLive) k
  match (k1.claim c).holder with
  | some h => if h.started then k1 else k1.endHolder e c .busLive
  | none => k1

/-- TIU takes the classes of the three buses at an accepted frame, a channel state change or a staleness change: a
change to live acts by R79, and every claim is tested (R76); each in the order BA, BB, GB. DESIGN CHOICE: assumption 91. -/
def Control.classOccasion (e : Sensed) (k : Control) : Control :=
  let k1 := forEach ClaimBus.all
    (fun c k =>
      let new := classOf e k (claimChannel c)
      let turned : Bool := k.tiu.busClass.get c ≠ new && new = .live
      let k' : Control := { k with tiu := { k.tiu with busClass := k.tiu.busClass.set c new } }
      if turned then k'.busLive e c else k')
    k
  k1.claimOccasions e

/-! ## Recomputation -/

/-- Whether two sets of nodes share a node. -/
def sharesNode (s t : PerChannel Bool) : Bool := Channel.all.any fun c => s.get c && t.get c

/-- Of some timers, the one that started earliest. -/
def earliest : List OverlapTimer → Option OverlapTimer
  | [] => none
  | t :: l => match earliest l with
    | some u => if u.serial < t.serial then some u else some t
    | none => some t

/-- The timer of one mixed group after a recomputation (R80): a matched one taken over, or a new one.
DEDUCED: assumption 38. -/
def overlapFor (e : Sensed) (k : Control) (group : PerChannel Bool) (arrival : Option Breaker) : OverlapTimer :=
  match earliest (k.tiu.overlaps.filter fun t => sharesNode t.group group) with
  | some t => { t with group := group }
  | none =>
    { group := group
      deadline := deadlineAfter e.now k.common.overlapLimit
      expired := false
      arriving := match arrival with
        | some b => if group.get (breakerR b) then some b else none
        | none => none
      serial := k.tiu.nextSerial }

/-- Match the mixed groups with the overlap timers (R80). Timers started at one recomputation share a serial. -/
def Control.matchOverlaps (e : Sensed) (k : Control) (arrival : Option Breaker) : Control :=
  let t := groupLabels k
  let timers := (mixedLabels t).map fun label => overlapFor e k (groupNodes t label) arrival
  let started := timers.any fun o => o.serial = k.tiu.nextSerial
  { k with tiu := { k.tiu with
      overlaps := timers
      nextSerial := if started then k.tiu.nextSerial + 1 else k.tiu.nextSerial } }

/-- The supply state a bus has from the groups as they stand (R67). -/
def supplyNow (k : Control) (l : Bus) : Supply := supplyOf l (nodeSources k (busChannel l))

/-- Set a bus supply state, and tell of a change (R67). -/
def Control.setSupply (k : Control) (l : Bus) : Control :=
  let new := supplyNow k l
  let old := k.tiu.supply.get l
  if old = new then k
  else ({ k with tiu := { k.tiu with supply := k.tiu.supply.set l new } } : Control).tell [.supplyChanged l old]

/-- A recomputation of the groups (R65 to R67, R76, R80), with the breaker of a closed-transition arrival if its CLOSE
started just now. Before the first evaluation nothing is formed (R68). -/
def Control.recompute (e : Sensed) (k : Control) (arrival : Option Breaker) : Control :=
  if k.tiu.formed then
    (((k.matchOverlaps e arrival).setSupply .ba).setSupply .bb).claimOccasions e
  else k

end Sys2Proof.Machine
end

