-- ==== Sys2Proof/Machine/BreakerOps.lean ====
section
/-! DEFINITION. What BCU does with the demands and events that reach it (spec/03, R45 to R57). -/

namespace Sys2Proof.Machine

/-! ## Reports -/

/-- Whether an operation is a close issued by an attempt still in progress (R51). -/
def byAttempt (k : Control) (b : Breaker) (op : Operation) : Bool :=
  match op.attempt with
  | some n => match k.attempt n with
    | some a => a.breaker = b && a.state = .closeIssued
    | none => false
  | none => false

/-- The cause with which a claim ends with its close (R78). -/
def OpEnd.claimCause : OpEnd → Cause
  | .completed => .completed
  | .failed _ => .failed
  | .cut _ _ => .cut

/-- A port's reservation without an attempt, released at the end of that port's close (R60). A claim request of the
port's that still waits stays in its place. DESIGN CHOICE: assumption 88. -/
def Control.releaseServed (k : Control) (b : Breaker) (op : Operation) : Control :=
  match op.party, op.attempt with
  | .port q, none => k.releaseReservation b (.port q none)
  | _, _ => k

/-- The report of the end of an operation (R51): TIU ends the claim the close served and recomputes; the reservation of a
port's close goes (R60); PRU ends a backup watch; the others take the report up afterwards. -/
def Control.reportEnd (e : Sensed) (k : Control) (b : Breaker) (op : Operation) (fin : OpEnd) : Control :=
  let report : OpReport :=
    { breaker := b, op := op, fin := fin, transfer := reservingTransfer k b, byAttempt := byAttempt k b op }
  let k1 := if op.kind = .close then (k.claimServed e b fin.claimCause).releaseServed b op else k
  let k2 := k1.recompute e none
  let k3 := if op.kind = .close then k2 else k2.watchEnded e b fin
  k3.tell [.opEnded report]

/-! ## Starting operations -/

/-- The operation record of an operation started now (R46). -/
def newOperation (e : Sensed) (k : Control) (b : Breaker) (kind : OpKind) (p : Party) (c : Cause)
    (attempt : Option AttemptNo) : Operation where
  kind := kind
  party := p
  cause := c
  attempt := attempt
  start := e.now
  deadline := deadlineAfter e.now (k.common.operateLimit.get b)
  serial := p.serial k

/-- An OPEN or TRIP started: record, commanded state, last cause and trip coil (R47, R48, R53). -/
def Control.beginOpening (e : Sensed) (k : Control) (b : Breaker) (kind : OpKind) (p : Party) (c : Cause) : Control :=
  k.modBreaker b fun r =>
    { r with op := some (newOperation e k b kind p c none), commanded := .opened, lastCause := c, tripCoil := true }

/-- A closed-transition arrival (R73): the party is a transfer of mode CLOSED and this is its arriving breaker. -/
def closedArrival (k : Control) (b : Breaker) (p : Party) : Bool :=
  match p with
  | .transfer l => (k.xfer l).mode = .closedTransition && (k.xfer l).arriving = some b && (k.xfer l).inProgress
  | _ => false

/-- A CLOSE started (R46): record, commanded state, last cause and close coil; its claim is marked started (R77), TIU
recomputes (R65), and LDM hears of a port's close of a feeder (R141). -/
def Control.beginClose (e : Sensed) (k : Control) (b : Breaker) (p : Party) (attempt : Option AttemptNo) : Control :=
  let c := demandCause k b p
  let k1 := k.modBreaker b fun r =>
    { r with op := some (newOperation e k b .close p c attempt), commanded := .closed, lastCause := c, closeCoil := true }
  let k2 := (k1.markStarted b p).recompute e (if closedArrival k b p then some b else none)
  match p with
  | .port _ => if (breakerBlock b).isSome then k2.tell [.portFeederClose b] else k2
  | _ => k2

/-- The start checks of R46, orders 1 to 7 but 6: the reason of the first that refuses. -/
def startRefusal (k : Control) (b : Breaker) (p : Party) : Option Reason :=
  let r := k.breaker b
  if (k.lockout b).flag then some .lockout
  else if r.closeBlocked then some .closeBlocked
  else if k.outOfService b && p ≠ .port .cpP then some .outOfService
  else if r.op.isSome then some .busy
  else if reservedAgainst k b p then some .reserved
  else match r.observed with
    | .travel | .invalid => some .busy
    | _ => none

/-- A close demand at BCU (R46). -/
def Control.bcuClose (e : Sensed) (k : Control) (b : Breaker) (p : Party) (attempt : Option AttemptNo) :
    Control × Answer :=
  match startRefusal k b p with
  | some r => (k, .refused r)
  | none =>
    if (k.breaker b).observed = .closed then
      (k.modBreaker b fun r => { r with commanded := .closed }, .acknowledged)
    else (k.beginClose e b p attempt, .started)

/-! ## Opens and trips -/

/-- The time an operation has run, in ms. -/
def Operation.age (op : Operation) (now : Word32) : Int := (now - op.start).toNat

/-- A CLOSE cut by an open or trip (R53): the close coil released, the new operation begun, OPERATION_CUT, PRU's notice
for a trip, and the report. -/
def Control.cut (e : Sensed) (k : Control) (b : Breaker) (op : Operation) (kind : OpKind) (p : Party) (c : Cause) :
    Control :=
  let k1 := (k.modBreaker b fun r => { r with closeCoil := false, op := none }).beginOpening e b kind p c
  let k2 := k1.record e .operationCut (.breaker b) c (op.age e.now)
  let k3 := if kind = .trip then k2.tripTaken e b c else k2
  k3.reportEnd e b op (.cut p c)

/-- An open or trip acknowledged without operation (R47, R48, R52, R63): `settled` says whether the breaker is at rest
in OPEN, which sets the commanded state. DEDUCED: assumption 35. -/
def Control.acknowledge (k : Control) (b : Breaker) (settled : Bool) (c : Cause) : Control :=
  k.modBreaker b fun r => { r with commanded := if settled then .opened else r.commanded, lastCause := c }

/-- The checks an open demand meets, with or without an operation in flight (R47, R52). -/
def openRefusal (k : Control) (b : Breaker) (p : Party) : Option Reason :=
  if k.outOfService b && p ≠ .port .cpP then some .outOfService
  else match p, (k.breaker b).holder with
    | .port _, _ => none
    | _, some h => if h.isParty p then none else some .reserved
    | _, none => none

/-- The effect of an open demand that is taken (R47, R52, R53). -/
def Control.takeOpen (e : Sensed) (k : Control) (b : Breaker) (p : Party) : Control × Answer :=
  let c := demandCause k b p
  match (k.breaker b).op with
  | none =>
    if (k.breaker b).observed = .opened then (k.acknowledge b true c, .acknowledged)
    else (k.beginOpening e b .opening p c, .started)
  | some op =>
    if op.kind = .close then (k.cut e b op .opening p c, .started)
    else (k.acknowledge b false c, .acknowledged)

/-- Whom a port's open of a breaker notifies: its reservation holder (R59), and every other port whose claim request for
the breaker it cancels (R78). -/
def openNotices (k : Control) (b : Breaker) : List Notice :=
  let held := match (k.breaker b).holder with
    | some h => [.operatorOpen b h (reservingTransfer k b)]
    | none => []
  let others := (claimingPorts k b).filter fun q => (k.breaker b).holder ≠ some (.port q none)
  held ++ others.map fun q => .operatorOpen b (.port q none) none

/-- An open demand at BCU (R47, R52), and the notices of a port's open (R59, R78). -/
def Control.bcuOpen (e : Sensed) (k : Control) (b : Breaker) (p : Party) : Control × Answer :=
  match openRefusal k b p with
  | some r => (k, .refused r)
  | none =>
    let (k1, a) := k.takeOpen e b p
    match p with
    | .port _ => (k1.tell (openNotices k b), a)
    | _ => (k1, a)

/-- An OPEN relabelled TRIP (R54). -/
def Control.relabel (k : Control) (b : Breaker) (op : Operation) (p : Party) (c : Cause) : Control :=
  let k1 := k.modBreaker b fun r =>
    { r with op := some { op with kind := .trip, party := p, cause := c }, lastCause := c }
  match reservingTransfer k b with
  | some t => k1.tell [.relabelled t c]
  | none => k1

/-- A trip demand at BCU (R48, R52 to R54). PRU is informed of every trip taken. -/
def Control.bcuTrip (e : Sensed) (k : Control) (b : Breaker) (p : Party) (c : Cause) : Control :=
  match (k.breaker b).op with
  | none =>
    if (k.breaker b).observed = .opened then (k.acknowledge b true c).tripTaken e b c
    else (k.beginOpening e b .trip p c).tripTaken e b c
  | some op => match op.kind with
    | .close => k.cut e b op .trip p c
    | .opening => (k.relabel b op p c).tripTaken e b c
    | .trip => (k.acknowledge b false c).tripTaken e b c

/-! ## Ends of operations -/

/-- The coil of an operation released and its record removed (R49, R50). -/
def BreakerRec.endOperation (r : BreakerRec) (op : Operation) : BreakerRec :=
  match op.kind with
  | .close => { r with closeCoil := false, op := none }
  | _ => { r with tripCoil := false, op := none }

/-- The completion of an operation (R49). -/
def Control.completeOperation (e : Sensed) (k : Control) (b : Breaker) (op : Operation) : Control :=
  let k1 := k.modBreaker b fun r =>
    { r.endOperation op with opCount := if r.opCount < 65535 then r.opCount + 1 else r.opCount }
  let kind := if op.kind = .close then EventKind.breakerClosed else .breakerOpened
  (k1.record e kind (.breaker b) op.cause (op.age e.now)).reportEnd e b op .completed

/-- The result of an operation that fails at its deadline (R50). The table gives none for a breaker observed at the
target it never left; that value is free. -/
def failureResult (e : Sensed) (k : Control) (b : Breaker) (op : Operation) : Cause :=
  match (k.breaker b).observed with
  | .travel => .stuckTravel
  | .invalid => .contactInvalid
  | o => if o = op.kind.target then Config.resultAtTarget b e.now else .noMovement

/-- An operation fails at its deadline (R50). -/
def Control.failOperation (e : Sensed) (k : Control) (b : Breaker) (op : Operation) : Control :=
  let result := failureResult e k b op
  let k1 := k.modBreaker b fun r =>
    let r' := r.endOperation op
    if op.kind = .close then { r' with closeBlocked := true } else { r' with openFailed := true }
  (k1.record e .operationFailed (.breaker b) result op.kind.number).reportEnd e b op (.failed result)

/-! ## Contacts -/

/-- An uncommanded change, recorded and adopted (R57). -/
def Control.uncommandedChange (e : Sensed) (k : Control) (b : Breaker) (new : Observed) : Control :=
  let k1 := k.modBreaker b fun r =>
    { r with
      lastCause := .uncommanded
      commanded := match new with
        | .opened => .opened
        | .closed => .closed
        | _ => r.commanded }
  match new with
  | .opened => k1.record e .uncommandedChange (.breaker b) .uncommanded 0
  | .closed => k1.record e .uncommandedChange (.breaker b) .uncommanded 1
  | .travel => k1.record e .uncommandedChange (.breaker b) .uncommanded 2
  | .invalid => k1.record e .contactInvalid (.breaker b) .uncommanded 3

/-- Whether every breaker has had its first settle (R68). -/
def allSettled (k : Control) : Bool := Breaker.all.all fun b => (k.breaker b).settled

/-- A change of observed state told (R44, R65): TIU recomputes at once, and the first settle of the last breaker makes the
first evaluation (R68). The other blocks take up the change itself before what TIU tells of it, so that a slot leaves ONLINE
by its breaker's change and not by a plan released at it (R119). DEDUCED: assumption 94. -/
def Control.tellObserved (e : Sensed) (k : Control) (b : Breaker) (new : Observed) (first : Bool) : Control :=
  let k1 : Control := if allSettled k then { k with tiu := { k.tiu with formed := true } } else k
  (k1.tell [.observed b new (k.breaker b).op first (reservingTransfer k b)]).recompute e none

/-- What BCU does with a new observed state (R44): completion, absorption or an uncommanded change. -/
def Control.judgeObserved (e : Sensed) (k : Control) (b : Breaker) (new : Observed) (first : Bool) : Control :=
  match (k.breaker b).op with
  | some op => if new = op.kind.target then k.completeOperation e b op else k
  | none =>
    if !first then k.uncommandedChange e b new
    else
      let k1 := k.modBreaker b fun r => { r with commanded := if new = .closed then .closed else .opened }
      if new = .invalid then k1.recordSubject e .contactInvalid (.breaker b) else k1

/-- A combination settles (R43, R44, R64). One that shows the state already held changes nothing, but for the first
settle after device reset. DEDUCED: assumption 17. -/
def Control.settleContacts (e : Sensed) (k : Control) (b : Breaker) : Control :=
  let r := k.breaker b
  let new := contactState r.closedMade r.openMade
  let first := !r.settled
  let k1 := k.modBreaker b fun r => { r with settle := .off }
  if new = r.observed && !first then k1
  else
    let k2 := k1.modBreaker b fun r => { r with observed := new, settled := true }
    (k2.tellObserved e b new first).judgeObserved e b new first

end Sys2Proof.Machine
end

