-- ==== Sys2Proof/Machine/Elements.lean ====
section
/-! DEFINITION. The elements of PRU that step once per frame delivered as FRESH (spec/08, R144 to R152), and the
judgement of a failed breaker (R157). -/

namespace Sys2Proof.Machine

/-- A trip demanded by an element (R153). DEDUCED: assumption 36. -/
def Control.protectionTrip (e : Sensed) (k : Control) (b : Breaker) (c : Cause) (value : Int) : Control :=
  (k.record e .protectionTrip (.breaker b) c value).bcuTrip e b .protection c

/-- The current multiple in sixteenths of pickup (R145). -/
def multiple (current pickup : Nat) : Nat := min 65535 (current * 16 / pickup)

/-- The rate of a curve table at a current multiple: that of the highest entry whose threshold is at or below it
(R147). -/
def curveRate (t : List CurveEntry) (m16 : Nat) : Nat :=
  match (t.filter fun x => x.threshold ≤ m16).getLast? with
  | some x => x.rate
  | none => 0

/-- The bucket after a frame at or above pickup (R147). -/
def fillBucket (bucket rate tm : Nat) : Nat := min bucketFull (bucket + rate * 4 * 100 / tm)

/-- The bucket after a frame below pickup (R146). -/
def drainBucket (bucket resetTime : Nat) : Nat :=
  if resetTime = 0 then 0 else bucket - bucketFull * 4 / resetTime

/-- The settings of the current elements of one breaker at an evaluation. -/
structure ElementSettings where
  pickup : Nat
  curve : List CurveEntry
  timeMultiplier : Nat
  resetTime : Nat
  instThreshold : Nat
  deriving DecidableEq, Repr

/-- The settings of the current elements in force. -/
def elementSettings (k : Control) (b : Breaker) : ElementSettings where
  pickup := k.group.pickup.get b
  curve := match CurveNo.ofIndex (k.group.curve.get b) with
    | some c => k.sst.working.curves.get c
    | none => []
  timeMultiplier := k.group.timeMultiplier.get b
  resetTime := k.group.resetTime.get b
  instThreshold := k.group.instThreshold.get b

/-- One step of the overcurrent element (R145 to R147): the record, and whether it demands a trip. -/
def stepOvercurrent (s : ElementSettings) (current : Nat) (r : ProtectionRec) : ProtectionRec × Bool :=
  if s.pickup = 0 then ({ r with bucket := 0, operated := false, m16 := 0 }, false)
  else
    let m := multiple current s.pickup
    if m < 16 then
      let bucket := drainBucket r.bucket s.resetTime
      ({ r with bucket := bucket, operated := r.operated && bucket ≠ 0, m16 := m }, false)
    else
      let bucket := fillBucket r.bucket (curveRate s.curve m) s.timeMultiplier
      let trips : Bool := bucket = bucketFull && !r.operated
      ({ r with bucket := bucket, operated := r.operated || trips, m16 := m }, trips)

/-- One step of the instantaneous element, on the multiple the record now holds (R145, R146, R151). -/
def stepInstantaneous (s : ElementSettings) (r : ProtectionRec) : ProtectionRec × Bool :=
  if s.pickup = 0 || s.instThreshold = 0 || r.m16 < s.instThreshold || r.m16 < 16 then
    ({ r with instCount := 0 }, false)
  else ({ r with instCount := min 2 (r.instCount + 1) }, r.instCount = 1)

/-- The reverse-power threshold of a slot in kW (R152). -/
def reverseThreshold (k : Control) (n : Slot) : Nat := k.common.rating.get n * k.group.reverseThreshold / 100

/-- One step of the reverse-power element (R152). -/
def stepReverse (e : Sensed) (k : Control) (b : Breaker) (n : Slot) (r : ProtectionRec) : ProtectionRec × Bool :=
  if (k.breaker b).observed = .opened then ({ r with reverse := 0 }, false)
  else if e.mlr.image.power.get n < -(reverseThreshold k n : Int) then
    let acc := min 30000 (r.reverse + 4)
    if k.group.reverseDelay ≤ acc then ({ r with reverse := 0 }, true) else ({ r with reverse := acc }, false)
  else ({ r with reverse := 0 }, false)

/-- The value of PROTECTION_TRIP for the current elements (R153). -/
def tripMultiple (m16 : Nat) : Int := min m16 32767

/-- The reverse-power element of a generator breaker at an evaluation. -/
def Control.evaluateReverse (e : Sensed) (k : Control) (b : Breaker) (n : Slot) : Control :=
  let (r, trips) := stepReverse e k b n (k.prot b)
  let k1 := k.modProt b fun _ => r
  if trips then k1.protectionTrip e b .reversePower (e.mlr.image.power.get n) else k1

/-- One evaluation of a breaker's record (R144): overcurrent, instantaneous and, for a generator breaker, reverse power.
Where overcurrent and instantaneous demand together, overcurrent is taken first. DESIGN CHOICE: assumption 58. Reverse
power is taken after both. DESIGN CHOICE: assumption 92. -/
def Control.evaluateProtection (e : Sensed) (k : Control) (b : Breaker) : Control :=
  let s := elementSettings k b
  let (r1, oc) := stepOvercurrent s (e.mlr.image.curr.get b) (k.prot b)
  let (r2, inst) := stepInstantaneous s r1
  let k1 := k.modProt b fun _ => r2
  let k2 := if oc then k1.protectionTrip e b .overcurrent (tripMultiple r2.m16) else k1
  let k3 := if inst then k2.protectionTrip e b .instantaneous (tripMultiple r2.m16) else k2
  match breakerSlot b with
  | some n => k3.evaluateReverse e b n
  | none => k3

/-- PRU at an accepted frame (R144): the breakers in ascending index. DESIGN CHOICE: assumption 85. -/
def Control.framePru (e : Sensed) (k : Control) : Control :=
  if e.mlr.fresh then forEach Breaker.all (fun b k => k.evaluateProtection e b) k else k

/-- Whether a breaker has failed at the expiry of its failure timer (R157). -/
def breakerFailed (e : Sensed) (k : Control) (b : Breaker) : Bool :=
  (k.breaker b).observed ≠ .opened || (e.mlr.fresh && k.group.failureCurrent ≤ e.mlr.image.curr.get b)

/-- The expiry of a breaker's failure timer (R156, R157). -/
def Control.failureExpired (e : Sensed) (k : Control) (b : Breaker) : Control :=
  let k0 := k.modProt b fun r => { r with failure := .off }
  if breakerFailed e k0 b then
    let k1 := k0.setLockout e b .breakerFailure
    let targets := (backupSet b).filter (possiblyClosed k1)
    let k2 := forEach targets (fun c k => k.bcuTrip e c .protection .backup) k1
    k2.record e .backupTrip (.breaker b) .breakerFailure targets.length
  else k0

end Sys2Proof.Machine
end

