-- ==== Sys2Proof/Machine/SyncOps.lean ====
section
/-! DEFINITION. What SYE does with attempts (spec/02): creation, the synchronism arithmetic, the close and the ends. -/

namespace Sys2Proof.Machine

/-! ## Ends -/

/-- The reservation holder a requester has. -/
def Requester.holder (r : Requester) (n : AttemptNo) : Holder :=
  match r with
  | .transfer l => .transfer l
  | .gen s => .gen s
  | .port p => .port p (some n)

/-- The end of an attempt in progress (R35). The record stays in its slot; a slot whose record is ENDED is free. -/
def Control.endAttempt (e : Sensed) (k : Control) (n : AttemptNo) (result : Cause) (fin : Option OpEnd)
    (refusal : Option Reason) : Control :=
  match k.attempt n with
  | none => k
  | some a =>
    let ended := { a with state := .ended, result := some result, stepPermission := false, issueRefusal := refusal }
    let k1 := k.setAttempt n ended
    let k2 : Control := { k1 with sye := { k1.sye with order := k1.sye.order.filter (· ≠ n) } }
    let k3 := k2.tell
      [.attemptEnded {
        number := n, breaker := a.breaker, requester := a.requester, result := result, fin := fin, refusal := refusal }]
    let k4 := k3.record e .syncResult (.breaker a.breaker) result (a.lastThetaP.getD 0)
    match a.requester with
    | .port p => k4.releaseReservation a.breaker (.port p (some n))
    | _ => k4

/-! ## Creation -/

/-- Whether a slot of the attempt list is free (R24). -/
def slotFree (k : Control) (n : AttemptNo) : Bool :=
  match k.attempt n with
  | some a => !a.inProgress
  | none => true

/-- The lowest free slot (R25). -/
def freeSlot (k : Control) : Option AttemptNo := AttemptNo.all.find? (slotFree k)

/-- Whether an attempt slot holds a PORT attempt in EVALUATING. -/
def portEvaluating (k : Control) (n : AttemptNo) : Bool :=
  match k.attempt n with
  | some a => a.state = .evaluating && (match a.requester with
    | .port _ => true
    | _ => false)
  | none => false

/-- The newest PORT attempt in EVALUATING (R26). -/
def newestPort (k : Control) : Option AttemptNo := k.sye.order.reverse.find? (portEvaluating k)

/-- The cycle count of an attempt's X channel (R25). -/
def xCycles (e : Sensed) (b : Breaker) : Word16 :=
  match breakerX b with
  | some x => (e.pcu.get x).cycles
  | none => 0

/-- A new attempt record (R25). -/
def newAttempt (e : Sensed) (k : Control) (b : Breaker) (r : Requester) : Attempt where
  breaker := b
  requester := r
  startTime := e.now
  startCycle := xCycles e b
  deadline := deadlineAfter e.now (k.group.syncLimit * 1000)
  count := 0
  lastCycle := none
  lastSlip := none
  lastTheta := none
  lastThetaP := none
  lastDeltaV := none
  failing := .none
  stepPermission := false
  state := .evaluating
  result := none
  issueRefusal := none

/-- An attempt created in a slot (R25): it joins the newest end, and a PORT attempt takes the breaker's reservation. -/
def Control.placeAttempt (e : Sensed) (k : Control) (n : AttemptNo) (b : Breaker) (r : Requester) : Control :=
  let k1 := k.setAttempt n (newAttempt e k b r)
  let k2 : Control := { k1 with sye := { k1.sye with order := k1.sye.order ++ [n] } }
  match r with
  | .port p => k2.modBreaker b fun x => { x with holder := some (.port p (some n)) }
  | _ => k2

/-- A synchronising close handed to SYE (R25, R26). -/
def Control.createAttempt (e : Sensed) (k : Control) (b : Breaker) (r : Requester) : Control × Answer :=
  if (attemptOn k b).isSome then (k, .refused .busy)
  else match freeSlot k with
    | some n => (k.placeAttempt e n b r, .attempt n)
    | none => match r with
      | .port _ => (k, .refused .noAttemptSlot)
      | _ => match newestPort k with
        | some n => ((k.endAttempt e n .preempted none none).placeAttempt e n b r, .attempt n)
        | none => (k, .refused .noAttemptSlot)

/-! ## Reservations -/

/-- Whether a breaker's operation in flight is a close of this port. -/
def portCloseInFlight (k : Control) (b : Breaker) (p : Port) : Bool :=
  match (k.breaker b).op with
  | some op => op.kind = .close && op.party = .port p
  | none => false

/-- The holder of a reservation recorded. -/
def Control.grantReservation (k : Control) (b : Breaker) (h : Holder) : Control :=
  k.modBreaker b fun r => { r with holder := some h }

/-- A reservation demand (R58, R39): the reason, if it is refused. -/
def Control.reserve (e : Sensed) (k : Control) (b : Breaker) (h : Holder) : Control × Option Reason :=
  let automatic := match h with
    | .transfer _ | .gen _ => true
    | _ => false
  if k.outOfService b then (k, some .outOfService)
  else match (k.breaker b).holder with
    | none => (k.grantReservation b h, none)
    | some h' =>
      if h' = h then (k, none)
      else match h', automatic with
        | .port _ (some n), true =>
          if evaluating k (some n) then ((k.endAttempt e n .preempted none none).grantReservation b h, none)
          else (k, some .busy)
        | .port p none, true =>
          if portCloseInFlight k b p then (k, some .busy)
          else ((k.endClaims e b (.port p) .withdrawn).grantReservation b h, none)
        | _, _ => (k, some .reserved)

/-! ## The close of an attempt -/

/-- The merged source set of a breaker's two sides (R73). -/
def mergedSources (k : Control) (b : Breaker) : SourceSet :=
  match breakerX b with
  | some x => (nodeSources k x).union (nodeSources k (breakerR b))
  | none => nodeSources k (breakerR b)

/-- Whether a merged source set is permitted for a party (R73). -/
def parallelPermitted (k : Control) (b : Breaker) (p : Party) : Bool :=
  let s := mergedSources k b
  if s.size ≤ 1 then true
  else closedArrival k b p && (!(s.u1 && s.u2) || k.common.utilityParallel)

/-- The breaker checks of step 1 (R69), but for those whose outcome is BCU's; `own` is the attempt that sends the
close, if one does. An attempt of another holder is met before the reservation. DEDUCED: assumption 101. -/
def breakerRefusal (k : Control) (b : Breaker) (p : Party) (own : Option AttemptNo) : Option Reason :=
  let r := k.breaker b
  if (k.lockout b).flag then some .lockout
  else if r.closeBlocked then some .closeBlocked
  else if k.outOfService b && p ≠ .port .cpP then some .outOfService
  else if r.op.isSome then some .busy
  else if (attemptOn k b).isSome && attemptOn k b ≠ own then some .busy
  else if reservedAgainst k b p then some .reserved
  else match r.observed with
    | .travel | .invalid => some .busy
    | _ => none

/-- The second check of an attempt's close (R74). -/
def recheckRefusal (k : Control) (n : AttemptNo) (a : Attempt) : Option Reason :=
  match breakerRefusal k a.breaker a.requester.party (some n) with
  | some r => some r
  | none => if parallelPermitted k a.breaker a.requester.party then none else some .parallelNotPermitted

/-- The close of an attempt sent (R33, R74). A close acknowledged on a breaker already closed counts as completed.
DEDUCED: assumption 24. -/
def Control.sendClose (e : Sensed) (k : Control) (n : AttemptNo) (a : Attempt) : Control :=
  match recheckRefusal k n a with
  | some r => k.endAttempt e n .closeFailed none (some r)
  | none => match k.bcuClose e a.breaker a.requester.party (some n) with
    | (k1, .started) =>
      (k1.setAttempt n { a with state := .closeIssued }).tell [.closeIssued n a.requester]
    | (k1, .acknowledged) => k1.endAttempt e n .success (some .completed) none
    | (k1, .refused r) => k1.endAttempt e n .closeFailed none (some r)
    | (k1, _) => k1

/-! ## Evaluation -/

/-- The raw lag of X behind R in cdeg (R29). -/
def rawLag (delta period : Nat) : Nat := delta % period * 36000 / period

/-- The angle of a raw lag (R29). -/
def angleOf (raw : Nat) : Int := if raw < 18000 then -(raw : Int) else 36000 - (raw : Int)

/-- An angle brought into −17,999 to 18,000 (R30). -/
def wrapAngle (a : Int) : Int := 18000 - (18000 - a) % 36000

/-- The advance over the closing time (R30). -/
def advance (slip : Int) (closingTime : Nat) : Int := (slip * closingTime * 36).tdiv 1000

/-- What an evaluation forms past the gates: slip, angle and predicted angle where the captures are in order, and the
voltage difference. -/
structure Measures where
  slip : Int
  angle : Option (Int × Int)
  deltaV : Nat
  deriving DecidableEq, Repr

/-- The slip of an attempt's sides (R28). -/
def slipOf (x r : ChannelRec) : Int := (x.freq : Int) - (r.freq : Int)

/-- The arithmetic of R28 to R31. DEDUCED: assumption 50. -/
def measure (e : Sensed) (k : Control) (b : Breaker) (x r : Channel) : Measures :=
  let cx := e.pcu.get x
  let cr := e.pcu.get r
  let slip := slipOf cx cr
  let delta := (cx.cLast - cr.cLast).toNat
  let theta := angleOf (rawLag delta cr.period)
  let vx := e.mlr.image.volt.get x
  let vr := e.mlr.image.volt.get r
  { slip := slip
    angle := if 2147483648 ≤ delta then none
      else some (theta, wrapAngle (theta + advance slip (k.common.closingTime.get b)))
    deltaV := max vx vr - min vx vr }

/-- The first failing condition past the gates (R29, R31). -/
def failingCondition (e : Sensed) (k : Control) (b : Breaker) (x r : Channel) (m : Measures) : Cause :=
  match m.angle with
  | none => .captureOrder
  | some (_, thetaP) =>
    if !(isLive e k x && isLive e k r && e.mlr.image.volt.get x ≤ k.group.ovPickup &&
        e.mlr.image.volt.get r ≤ k.group.ovPickup) then .notLive
    else if k.group.slipLimit < m.slip.natAbs then .slip
    else if k.common.positiveSlipOnly.get b && m.slip < 0 then .slipSign
    else if k.group.angleWindow < thetaP.natAbs then .angle
    else if k.group.voltageDiff < m.deltaV then .voltageDifference
    else .none

/-- The in-window count after an evaluation (R32). -/
def nextCount (dwell count : Nat) (failing : Cause) : Nat :=
  if failing = .none then min (count + 1) dwell else 0

/-- An attempt after the judgement of one evaluation (R27 to R32), and the slip it formed, if it formed one. -/
def judgeAttempt (e : Sensed) (k : Control) (a : Attempt) (x r : Channel) : Attempt × Option Int :=
  let a1 := { a with lastCycle := some (e.pcu.get x).cycles }
  if !e.mlr.fresh then ({ a1 with failing := .stale, count := 0 }, none)
  else if (e.pcu.get x).state ≠ .tracking || (e.pcu.get r).state ≠ .tracking then
    ({ a1 with failing := .notTracking, count := 0 }, none)
  else
    let m := measure e k a.breaker x r
    let f := failingCondition e k a.breaker x r m
    ({ a1 with
        lastSlip := some m.slip
        lastTheta := match m.angle with
          | some (theta, _) => some theta
          | none => a.lastTheta
        lastThetaP := match m.angle with
          | some (_, thetaP) => some thetaP
          | none => a.lastThetaP
        lastDeltaV := some m.deltaV
        failing := f
        count := nextCount k.group.dwell a.count f }, some m.slip)

/-- Whether an evaluation that reached the dwell sends the close (R33). -/
def closeReleased (k : Control) (a : Attempt) : Bool :=
  match a.requester with
  | .port _ => true
  | _ => !k.tsq.hold || a.stepPermission

/-- One evaluation of an attempt (R27 to R34). -/
def Control.evaluate (e : Sensed) (k : Control) (n : AttemptNo) (a : Attempt) (x r : Channel) : Control :=
  let (a1, slip) := judgeAttempt e k a x r
  let k1 := k.setAttempt n a1
  let k2 := match a.requester with
    | .gen s => k1.tell [.evaluation s slip a1.failing a1.count]
    | _ => k1
  if a1.failing = .none && a1.count = k.group.dwell && closeReleased k a1 then
    let a2 := if k.tsq.hold then { a1 with stepPermission := false } else a1
    (k2.setAttempt n a2).sendClose e n a2
  else k2

/-- SYE at an accepted edge of a channel (R27): of several attempts with that X channel, the lowest slot first.
DESIGN CHOICE: assumption 53. -/
def Control.syncEdge (e : Sensed) (k : Control) (c : Channel) : Control :=
  forEach AttemptNo.all
    (fun n k => match k.attempt n with
      | some a =>
        if a.state = .evaluating && breakerX a.breaker = some c then k.evaluate e n a c (breakerR a.breaker) else k
      | none => k)
    k

/-- BCU's report of a close that SYE issued (R36). -/
def Control.syncReport (e : Sensed) (k : Control) (r : OpReport) : Control :=
  match r.op.attempt with
  | some n =>
    if byAttempt k r.breaker r.op then
      match r.fin with
      | .completed => k.endAttempt e n .success (some r.fin) none
      | _ => k.endAttempt e n .closeFailed (some r.fin) none
    else k
  | none => k

end Sys2Proof.Machine
end

