-- ==== Sys2Proof/Machine/CloseOps.lean ====
section
/-! DEFINITION. The close classification (spec/04, R69 to R73 and R77). -/

namespace Sys2Proof.Machine

/-- The requester of an attempt that a party's demand becomes; LOAD, PRU and TIU make none. -/
def Party.requester : Party → Option Requester
  | .port p => some (.port p)
  | .transfer l => some (.transfer l)
  | .gen n => some (.gen n)
  | _ => none

/-- A dead-bus close (R71): refused BACKFEED, passed to BCU under a held claim, or made a claim request. -/
def Control.deadBusClose (e : Sensed) (k : Control) (b : Breaker) (p : Party) (dead : Channel) : Control × Answer :=
  if 0 < (nodeSources k dead).size then (k, .refused .backfeed)
  else match channelClaim dead with
    | some c => if holdsClaim k c b p then k.bcuClose e b p none else k.requestClaim e c b p
    | none => (k, .refused .backfeed)

/-- Steps 3 to 6 of the classification, for a joining breaker observed OPEN (R68, R71 to R73). -/
def Control.classifySides (e : Sensed) (k : Control) (b : Breaker) (p : Party) (x r : Channel) : Control × Answer :=
  if !k.tiu.formed then (k, .refused .notReady)
  else if !e.mlr.fresh then (k, .refused .stale)
  else match classOf e k x, classOf e k r with
    | .indeterminate, _ | _, .indeterminate => (k, .refused .voltageIndeterminate)
    | .dead, .live => k.deadBusClose e b p x
    | .live, .dead => k.deadBusClose e b p r
    | .dead, .dead => if k.common.deadDead.get b then k.bcuClose e b p none else (k, .refused .deadDead)
    | .live, .live =>
      if parallelPermitted k b p then
        match p.requester with
        | some q => k.createAttempt e b q
        | none => (k, .refused .parallelNotPermitted)
      else (k, .refused .parallelNotPermitted)

/-- Whether a port's close of a feeder is refused SHED_ACTIVE (R141): its block is SHED and its bus in GEN. -/
def shedActive (k : Control) (b : Breaker) (p : Party) : Bool :=
  match p, breakerBlock b with
  | .port _, some f =>
    ((k.blockRec f).state = .opening || (k.blockRec f).state = .listed || (k.blockRec f).state = .restoring) &&
      k.tiu.supply.get (blockBus f) = .gen
  | _, _ => false

/-- Steps 1 and 2 of the classification, and the rest (R69, R70, R141). -/
def Control.classifyClose (e : Sensed) (k : Control) (b : Breaker) (p : Party) : Control × Answer :=
  match breakerRefusal k b p none with
  | some r => (k, .refused r)
  | none =>
    if (k.breaker b).observed = .closed then k.bcuClose e b p none
    else if shedActive k b p then (k, .refused .shedActive)
    else if k.outOfService b then k.bcuClose e b p none
    else match breakerX b with
      | none =>
        if !e.mlr.fresh then (k, .refused .stale)
        else if !isLive e k (breakerR b) then (k, .refused .busNotLive)
        else k.bcuClose e b p none
      | some x => k.classifySides e b p x (breakerR b)

/-- Whether a refusal leaves the holder of a claim in place (R77). -/
def Reason.keepsClaim : Reason → Bool
  | .stale | .voltageIndeterminate => true
  | _ => false

/-- A close demand (section 4.2). A holder's close refused for a reason other than STALE or VOLTAGE_INDETERMINATE ends
the holder REFUSED (R77, R78); that of a request which only waits leaves it waiting. DESIGN CHOICE: assumption 66. -/
def Control.closeDemand (e : Sensed) (k : Control) (b : Breaker) (p : Party) : Control × Answer :=
  match k.classifyClose e b p with
  | (k1, .refused r) =>
    if r.keepsClaim then (k1, .refused r)
    else match unstartedClaim k1 b p with
      | some c => (k1.endHolder e c .refused, .refused r)
      | none => (k1, .refused r)
  | res => res

end Sys2Proof.Machine
end

