-- ==== Sys2Proof/Machine/SourceOps.lean ====
section
/-! DEFINITION. What SMN does with the health records and GB availability (spec/01, R17 to R22). -/

namespace Sys2Proof.Machine

/-- The number of a health state (R21). -/
def Health.number : Health → Nat
  | .unknown => 0
  | .healthy => 1
  | .pendingLoss => 2
  | .lost => 3
  | .returning => 4

/-- A health record changed by a rule. -/
def Control.modHealth (k : Control) (u : Utility) (f : HealthRec → HealthRec) : Control :=
  { k with smn := { k.smn with health := k.smn.health.modify u f } }

/-- A change of state of a health record (R21). -/
def Control.setHealth (e : Sensed) (k : Control) (u : Utility) (state : Health) (timer : Timer) (cause : Cause) :
    Control :=
  ((k.modHealth u fun h => { h with state := state, timer := timer, lastChange := e.now }).record e .sourceState
    (.utility u) cause state.number).tell [.healthChanged u]

/-- The move an evaluation makes from a state: the new state, its timer and the cause, if the state changes (R19). -/
def healthMove (e : Sensed) (k : Control) (state : Health) (inBand : Bool) : Option (Health × Timer × Cause) :=
  match state, inBand with
  | .unknown, true => some (.healthy, .off, .inBand)
  | .unknown, false => some (.lost, .off, .outOfBand)
  | .healthy, false => some (.pendingLoss, .start e.now k.group.lossDelay, .outOfBand)
  | .pendingLoss, true => some (.healthy, .off, .inBand)
  | .lost, true => some (.returning, .start e.now (k.group.returnStable * 1000), .inBand)
  | .returning, false => some (.lost, .off, .outOfBand)
  | _, _ => none

/-- The last out-of-band reason after an evaluation (R17). -/
def Control.noteReason (k : Control) (u : Utility) (failure : Option Cause) : Control :=
  match failure with
  | some c => k.modHealth u fun h => { h with reason := c }
  | none => k

/-- An evaluation of a utility's record on a FRESH image (R17 to R19). -/
def Control.evaluateHealth (e : Sensed) (k : Control) (u : Utility) : Control :=
  let failure := bandFailure e k u
  let k1 := k.noteReason u failure
  match healthMove e k (k.smn.health.get u).state failure.isNone with
  | some (s, t, c) => k1.setHealth e u s t c
  | none => k1

/-- The entry of a utility's channel into NO_SIGNAL (R18, R19), an evaluation that finds it not tracking.
DEDUCED: assumption 34. -/
def Control.healthNoSignal (e : Sensed) (k : Control) (u : Utility) : Control :=
  let k1 := k.noteReason u (some .notTracking)
  if (k.smn.health.get u).state = .lost then k1 else k1.setHealth e u .lost .off .noSignal

/-- A change of GB availability (R22). -/
def Control.setAvailable (e : Sensed) (k : Control) (new : Bool) (cause : Cause) : Control :=
  if new = k.smn.gbAvailable then k
  else (({ k with smn := { k.smn with gbAvailable := new } } : Control).record e .sourceState .gb cause
    new.toNat).tell [.availabilityChanged]

/-- GB availability derived anew; `lost` is the cause if GB stops being available (R22). -/
def Control.deriveAvailable (e : Sensed) (k : Control) (lost : Cause) : Control :=
  let new := isLive e k .gb && 0 < capacityOnline k
  k.setAvailable e new (if new then .inBand else lost)

/-- SMN at a change of capacity online (R22). -/
def Control.capacitySmn (e : Sensed) (k : Control) : Control :=
  if e.mlr.fresh then k.deriveAvailable e .outOfBand
  else if capacityOnline k = 0 then k.setAvailable e false .outOfBand
  else k

/-- SMN at an accepted frame (R18, R22). -/
def Control.frameSmn (e : Sensed) (k : Control) : Control :=
  if e.mlr.fresh then ((k.evaluateHealth e .u1).evaluateHealth e .u2).deriveAvailable e .outOfBand else k

/-- SMN at a change of a channel's state (R18, R19, R22). -/
def Control.channelSmn (e : Sensed) (k : Control) (c : Channel) : Control :=
  let noSignal := (e.pcu.get c).state = .noSignal
  match channelUtility c with
  | some u =>
    if noSignal then k.healthNoSignal e u
    else if e.mlr.fresh then k.evaluateHealth e u
    else k
  | none =>
    if c = .gb then
      if noSignal then k.setAvailable e false .noSignal
      else if e.mlr.fresh then k.deriveAvailable e .outOfBand
      else k
    else k

/-- SMN at a change of staleness (R18): its timers are suspended while STALE. -/
def Control.stalenessSmn (e : Sensed) (k : Control) : Control :=
  { k with smn := { k.smn with
      health := .ofFn fun u =>
        let h := k.smn.health.get u
        { h with timer := if e.mlr.fresh then h.timer.resume e.now else h.timer.suspend e.now } } }

end Sys2Proof.Machine
end

