-- ==== Sys2Proof/Machine/LoadOps.lean ====
section
/-! DEFINITION. What LDM does with the load blocks (spec/07, R128 to R141). -/

namespace Sys2Proof.Machine

/-! ## The shed list -/

/-- The shed priority of a block. -/
def priority (k : Control) (f : Block) : Nat := k.common.shedPriority.get f

/-- A list of blocks with one more at the place its priority gives it (R130). -/
def insertBlock (k : Control) (f : Block) : List Block → List Block
  | [] => [f]
  | g :: l => if priority k f < priority k g then f :: g :: l else g :: insertBlock k f l

/-- A list of blocks in ascending priority number. -/
def sortBlocks (k : Control) : List Block → List Block
  | [] => []
  | f :: l => insertBlock k f (sortBlocks k l)

/-- A block's state changed, the shed list kept in step with it, and TSQ told (R128, R130). A requested restore stands
until the block leaves the list (R139). -/
def Control.setBlock (k : Control) (f : Block) (state : BlockState) : Control :=
  let k1 := k.modBlock f fun r =>
    { r with state := state, restoreRequested := if state = .listed then r.restoreRequested else false }
  let others := k.ldm.shedList.filter (· ≠ f)
  let list := if state = .listed then insertBlock k f others else others
  ({ k1 with ldm := { k1.ldm with shedList := list } } : Control).tell [.blockChanged]

/-- The open of a feeder that a pre-shed waits for has ended (R132); the last one is reported to TSQ. -/
def Control.preShedOpenEnded (k : Control) (f : Block) : Control :=
  let l := blockBus f
  let done (k : Control) (l : Bus) : Control :=
    let waiting := k.ldm.preShedOpens.get l
    if waiting.contains f then
      let left := waiting.filter (· ≠ f)
      let k1 : Control := { k with ldm := { k.ldm with preShedOpens := k.ldm.preShedOpens.set l left } }
      if left.isEmpty then k1.tell [.preShedEnded l] else k1
    else k
  done (done k l) (otherBus l)

/-! ## Shedding -/

/-- One shed of a block (R131); the answer is BCU's to the open demand. -/
def Control.shed (e : Sensed) (k : Control) (f : Block) (cause : Cause) : Control × Answer :=
  let (k1, a) := k.bcuOpen e (blockBreaker f) .load
  let k2 := (k1.modBlock f fun r => { r with lastShed := cause }).setBlock f .opening
  (k2.record e .blockShed (.breaker (blockBreaker f)) cause (k.common.estimate.get f), a)

/-- The block with the highest priority number among those that meet a test (R131). -/
def leastCritical (k : Control) (test : Block → Bool) : Option Block :=
  (sortBlocks k (Block.all.filter test)).getLast?

/-- Shed the GB-fed block with the highest priority number, if there is one. -/
def Control.shedOne (e : Sensed) (k : Control) (cause : Cause) : Control :=
  match leastCritical k (gbFed k) with
  | some f => (k.shed e f cause).1
  | none => k

/-- Whether the generators cannot carry the GB-fed blocks (R134): by the estimates, or with no capacity left. -/
def capacityShort (k : Control) : Bool :=
  capacityOnline k < estimateSum k (Block.all.filter (gbFed k)) || capacityOnline k = 0

/-- Capacity-loss shedding (R134), at most once for each of `n` blocks. -/
def Control.shedToCapacity (e : Sensed) (k : Control) : Nat → Control
  | 0 => k
  | n + 1 =>
    if capacityShort k then
      (k.shedOne e .capacityLoss).shedToCapacity e n
    else k

/-- LDM at GSC's report that a slot has left ONLINE (R134). -/
def Control.capacityLoss (e : Sensed) (k : Control) : Control :=
  if someBusInGen k then k.shedToCapacity e 8 else k

/-- The blocks a pre-shed removes, from candidates in descending priority number (R132). -/
def removals (k : Control) (limit : Nat) : List Block → List Block
  | [] => []
  | f :: l => if limit < estimateSum k (f :: l) then f :: removals k limit l else []

/-- The candidates of a pre-shed, in descending priority number (R132). -/
def preShedCandidates (k : Control) (l : Bus) : List Block :=
  (sortBlocks k (Block.all.filter fun f =>
    gbFed k f || ((k.blockRec f).state = .connected && blockBus f = l))).reverse

/-- One block of a pre-shed: it is shed, and its open is waited for unless it ended at once. -/
def Control.preShedOne (e : Sensed) (k : Control) (l : Bus) (f : Block) : Control :=
  let (k1, a) := k.shed e f .preShed
  if a = .started then
    { k1 with ldm := { k1.ldm with preShedOpens := k1.ldm.preShedOpens.modify l fun w => w ++ [f] } }
  else k1

/-- Pre-shed of a bus (R132): the feeders shed. The end of the opens follows at once if none is waited for. -/
def Control.preShed (e : Sensed) (k : Control) (l : Bus) : Control × List Block :=
  let limit := capacityOnline k * k.common.preShedRatio / 1000
  let out := removals k limit (preShedCandidates k l)
  let k0 : Control := { k with ldm := { k.ldm with preShedOpens := k.ldm.preShedOpens.set l [] } }
  let k1 := forEach out (fun f k => k.preShedOne e l f) k0
  (if (k1.ldm.preShedOpens.get l).isEmpty then k1.tell [.preShedEnded l] else k1, out)

/-! ## Overload and underfrequency -/

/-- The overload timer replaced. -/
def Control.setOverload (k : Control) (t : Timer) : Control := { k with ldm := { k.ldm with overload := t } }

/-- LDM's overload judgement at a frame delivered as FRESH (R133). -/
def Control.judgeOverload (e : Sensed) (k : Control) : Control :=
  if !someBusInGen k then k
  else if ((capacityOnline k * k.group.overloadRatio / 1000 : Nat) : Int) < generatorLoad e k then
    if k.ldm.overload.active then k else k.setOverload (.start e.now (k.group.overloadDelay * 1000))
  else k.setOverload .off

/-- The threshold and delay of an underfrequency stage (R135). -/
def ufSettings (k : Control) : UfStage → Nat × Nat
  | .stage1 => (k.group.uf1Threshold, k.group.uf1Delay)
  | .stage2 => (k.group.uf2Threshold, k.group.uf2Delay)

/-- The shed cause of an underfrequency stage. -/
def UfStage.cause : UfStage → Cause
  | .stage1 => .underfrequency1
  | .stage2 => .underfrequency2

/-- An underfrequency timer replaced. -/
def Control.setUf (k : Control) (st : UfStage) (t : Timer) : Control :=
  { k with ldm := { k.ldm with uf := k.ldm.uf.set st t } }

/-- Whether GB is TRACKING below a stage's threshold. -/
def belowUf (e : Sensed) (k : Control) (st : UfStage) : Bool :=
  (e.pcu.get .gb).state = .tracking && (e.pcu.get .gb).freq < (ufSettings k st).1

/-- The judgement of an underfrequency stage (R135). -/
def Control.judgeUf (e : Sensed) (k : Control) (st : UfStage) : Control :=
  if belowUf e k st && someBusInGen k then
    if (k.ldm.uf.get st).active then k else k.setUf st (.start e.now (ufSettings k st).2)
  else k.setUf st .off

/-- Both stages judged. -/
def Control.judgeUfStages (e : Sensed) (k : Control) : Control := (k.judgeUf e .stage1).judgeUf e .stage2

/-- The timers that run only while the generators carry a bus, stopped when they do not (R133, R135). -/
def Control.stopGenTimers (k : Control) : Control :=
  let k1 := if !someBusInGen k || capacityOnline k = 0 then k.setOverload .off else k
  if someBusInGen k then k1 else (k1.setUf .stage1 .off).setUf .stage2 .off

/-! ## Restoration -/

/-- Whether a listed block is eligible, but for auto-restore (R136). -/
def restorable (e : Sensed) (k : Control) (f : Block) : Bool :=
  let b := blockBreaker f
  let s := k.tiu.supply.get (blockBus f)
  (s = .utility || s = .tie || s = .gen) && isLive e k (busChannel (blockBus f)) && !k.outOfService b &&
    !(k.lockout b).flag && !(k.breaker b).closeBlocked

/-- The capacity test, where it applies (R136). -/
def capacityTest (e : Sensed) (k : Control) (f : Block) : Bool :=
  k.tiu.supply.get (blockBus f) ≠ .gen ||
    ((e.pcu.get .gb).state = .tracking && k.group.restoreFrequency ≤ (e.pcu.get .gb).freq &&
      ((k.common.estimate.get f + k.common.restoreMargin : Nat) : Int) ≤ (capacityOnline k : Int) - generatorLoad e k)

/-- The requested restore to take (R136, pass 1). -/
def requestedCandidate (e : Sensed) (k : Control) : Option Block :=
  k.ldm.shedList.find? fun f => (k.blockRec f).restoreRequested && restorable e k f && capacityTest e k f

/-- The paced restore to take from a list (R136, pass 2); `genOpen` says whether blocks of buses in GEN may still be
taken. -/
def pacedFrom (e : Sensed) (k : Control) : Bool → List Block → Option Block
  | _, [] => none
  | genOpen, f :: l =>
    let gen : Bool := k.tiu.supply.get (blockBus f) = .gen
    if restorable e k f && (k.common.autoRestore.get f || (k.blockRec f).restoreRequested) then
      if !gen then some f
      else if !genOpen then pacedFrom e k genOpen l
      else if capacityTest e k f then some f
      else pacedFrom e k false l
    else pacedFrom e k genOpen l

/-- Whether a paced restore may be made now (R136, R138). -/
def pacingOpen (k : Control) : Bool := !k.tsq.hold && !k.ldm.restoreTimer.active && !k.ldm.pacingStopped

/-- The restore candidate and whether it is a requested one (R136). -/
def restoreCandidate (e : Sensed) (k : Control) : Option (Block × Bool) :=
  match requestedCandidate e k with
  | some f => some (f, true)
  | none => if pacingOpen k then (pacedFrom e k true k.ldm.shedList).map fun f => (f, false) else none

/-- A block enters RESTORING (R137). -/
def Control.beginRestore (e : Sensed) (k : Control) (f : Block) (requested : Bool) : Control :=
  let k1 := (k.modBlock f fun r => { r with restoreRequested := false, restorePort := requested }).setBlock f .restoring
  if requested then k1
  else { k1 with ldm := { k1.ldm with restoreTimer := .start e.now (k1.common.restoreInterval * 1000) } }

/-- A restore close completes (R129, R137). -/
def Control.restored (e : Sensed) (k : Control) (f : Block) : Control :=
  let b := blockBreaker f
  let cause := if (k.blockRec f).restorePort then Cause.port else .auto
  (((k.setBlock f .connected).record e .blockRestored (.breaker b) cause (k.common.estimate.get f)).releaseReservation b
    .load).tell [.seekRestore]

/-- The restore close of a candidate demanded (R137). An acknowledgement without operation is the restore's completion
(R46), and starts no restore interval. DESIGN CHOICE: assumption 96. -/
def Control.tryRestore (e : Sensed) (k : Control) (f : Block) (requested : Bool) : Control :=
  let b := blockBreaker f
  match k.reserve e b .load with
  | (k1, some _) => k1
  | (k1, none) => match k1.closeDemand e b .load with
    | (k2, .started) => k2.beginRestore e f requested
    | (k2, .acknowledged) => (k2.modBlock f fun r => { r with restorePort := requested }).restored e f
    | (k2, _) => k2.releaseReservation b .load

/-- LDM seeks a restore candidate (R136). None is sought while a block is in RESTORING. -/
def Control.seekRestore (e : Sensed) (k : Control) : Control :=
  if Block.all.any fun f => (k.blockRec f).state = .restoring then k
  else match restoreCandidate e k with
    | some (f, requested) => k.tryRestore e f requested
    | none => k

/-- A restore close ends without the block CONNECTED (R129, R137). -/
def Control.restoreFailed (e : Sensed) (k : Control) (f : Block) : Control :=
  let b := blockBreaker f
  (((k.setBlock f .openOther).record e .blockRestored (.breaker b) .restoreFailed 0).releaseReservation b .load).tell
    [.seekRestore]

/-! ## Notices from BCU -/

/-- Whether an operation is an OPEN of LDM's. -/
def isLoadOpen (op : Option Operation) : Bool :=
  match op with
  | some op => op.kind = .opening && op.party = .load
  | none => false

/-- Whether an operation is a CLOSE of LDM's or a port's. -/
def isLoadOrPortClose (op : Option Operation) : Bool :=
  match op with
  | some op => op.kind = .close && (match op.party with
    | .load | .port _ => true
    | _ => false)
  | none => false

/-- LDM at a change of a feeder's observed state (R129, R142). A CONNECTED block whose feeder leaves CLOSED under any
operation is OPEN_OTHER; a listed one closed by a port's close that was in flight at its UNBLOCK stays listed.
DESIGN CHOICE: assumption 74. DESIGN CHOICE: assumption 75. -/
def Control.feederObserved (k : Control) (f : Block) (new : Observed) (op : Option Operation) : Control :=
  if k.outOfService (blockBreaker f) then k
  else match (k.blockRec f).state with
    | .opening =>
      if new = .closed then k
      else if isLoadOpen op then k.setBlock f .listed
      else (k.setBlock f .openOther).preShedOpenEnded f
    | .listed => if new = .closed && !isLoadOrPortClose op then k.setBlock f .connected else k
    | .restoring => k
    | .connected => if new = .closed then k else k.setBlock f .openOther
    | .openOther | .blocked => if new = .closed then k.setBlock f .connected else k

/-- LDM at the end of an operation on a feeder (R51, R129, R132, R137). DEDUCED: assumption 37. -/
def Control.feederOpEnded (e : Sensed) (k : Control) (f : Block) (r : OpReport) : Control :=
  let k1 := if r.op.kind = .close then k else k.preShedOpenEnded f
  match (k.blockRec f).state, r.op.kind, r.fin with
  | .opening, .opening, .failed _ =>
    if r.op.party = .load && (k.breaker r.breaker).observed = .closed then k1.setBlock f .connected else k1
  | .listed, .trip, _ => if r.op.party = .protection then k1.setBlock f .openOther else k1
  | .restoring, .close, .completed => if r.op.party = .load then k1.restored e f else k1
  | .restoring, .close, _ => if r.op.party = .load then k1.restoreFailed e f else k1
  | _, _, _ => k1

/-- LDM at a port's open of a feeder it has reserved (R137). -/
def Control.feederOperatorOpen (e : Sensed) (k : Control) (f : Block) : Control :=
  if (k.blockRec f).state = .restoring then k.restoreFailed e f else k

/-- LDM at a change of a feeder's out-of-service flag (R129). -/
def Control.feederService (k : Control) (f : Block) : Control :=
  if k.outOfService (blockBreaker f) && (k.blockRec f).state ≠ .openOther then
    (k.setBlock f .openOther).preShedOpenEnded f
  else k

/-- LDM at the start of a port's close of a feeder (R129, R141). -/
def Control.feederPortClose (k : Control) (f : Block) : Control :=
  if (k.blockRec f).state = .listed then k.setBlock f .openOther else k

/-! ## Other notices -/

/-- LDM at an accepted frame (R133, R136). -/
def Control.frameLdm (e : Sensed) (k : Control) : Control :=
  if e.mlr.fresh then (k.judgeOverload e).seekRestore e else k

/-- LDM at a change of staleness (R133). -/
def Control.stalenessLdm (e : Sensed) (k : Control) : Control :=
  k.setOverload (if e.mlr.fresh then k.ldm.overload.resume e.now else k.ldm.overload.suspend e.now)

/-- LDM at a change of a bus supply state (R133, R135, R136, R138). -/
def Control.supplyLdm (e : Sensed) (k : Control) : Control :=
  let k1 := k.stopGenTimers
  ({ k1 with ldm := { k1.ldm with pacingStopped := false } } : Control).seekRestore e

/-- LDM at a change of capacity online (R133, R136). -/
def Control.capacityLdm (e : Sensed) (k : Control) : Control := (k.stopGenTimers).seekRestore e

end Sys2Proof.Machine
end

