-- ==== Sys2Proof/Machine/GeneratorOps.lean ====
section
/-! DEFINITION. What GSC does with the generator slots (spec/06, R108 to R127). -/

namespace Sys2Proof.Machine

/-! ## The slot record -/

/-- The number of a slot state (section 6.1). -/
def SlotState.number : SlotState → Nat
  | .unavailable => 0
  | .standby => 1
  | .starting => 2
  | .awaitingBus => 3
  | .synchronizing => 4
  | .closing => 5
  | .online => 6
  | .unloading => 7
  | .cooldown => 8
  | .failed => 9

/-- A duty clamped to the working Dmin to Dmax (R123). -/
def clampDuty (k : Control) (d : Int) : Nat :=
  if d < (k.common.dmin : Int) then k.common.dmin
  else if (k.common.dmax : Int) < d then k.common.dmax
  else d.toNat

/-- The duty a slot takes when it enters a state, or at the end of hold for a state it is in (R123). -/
def stateDuty (k : Control) (r : SlotRec) : SlotState → Nat
  | .online => clampDuty k r.setPoint
  | .unloading => r.duty
  | _ => 500

/-- The timer a slot starts at entry to a state; every other timer of it is removed (R114 to R122). -/
def stateTimer (e : Sensed) (k : Control) : SlotState → Timer
  | .starting => .start e.now (k.common.startTime * 1000)
  | .synchronizing => .start e.now (k.group.syncLimit * 1000)
  | .unloading => .start e.now (k.common.unloadLimit * 1000)
  | .cooldown => .start e.now (k.common.cooldownTime * 1000)
  | _ => .off

/-- Whether a slot state is one in which the demand source is NONE from entry on (R109). -/
def SlotState.endsDemand : SlotState → Bool
  | .standby | .unavailable | .failed => true
  | _ => false

/-- A slot record at entry to a state. A deferred stop stands until its close ends or the demand source does.
DESIGN CHOICE: assumption 55. -/
def SlotRec.enter (e : Sensed) (k : Control) (r : SlotRec) (state : SlotState) (cause : Cause) : SlotRec :=
  let r1 : SlotRec := if state = .online then { r with setPoint := 500 } else r
  { r1 with
    state := state
    demand := if state.endsDemand then .none else r.demand
    deferredStop := if state.endsDemand then false else r.deferredStop
    attempt := none
    duty := if k.tsq.hold then r.duty else stateDuty k r1 state
    fault := if state = .failed then some cause else r.fault
    timer := stateTimer e k state
    ramp := if state = .unloading then .startOr k.tsq.hold e.now 100 else .off
    openDemanded := false
    unloadTimedOut := false }

/-- The party of a slot. -/
def slotParty (n : Slot) : Party := .gen n

/-- A change of a slot's state (R108), with what follows a change of capacity online (R119): SMN is told, LDM sheds at
an exit from ONLINE, and TSQ and LDM take up the change. -/
def Control.setSlotState (e : Sensed) (k : Control) (n : Slot) (state : SlotState) (cause : Cause) : Control :=
  let wasOnline : Bool := (k.slot n).state = .online
  let isOnline : Bool := state = .online
  let k0 := if isOnline then k.releaseReservation (slotBreaker n) (.gen n) else k
  let k1 := k0.modSlot n fun r => r.enter e k0 state cause
  let k2 := (k1.record e .slotState (.slot n) cause state.number).tell [.slotChanged, .planEvaluation]
  if wasOnline = isOnline then k2
  else
    let k3 := k2.capacitySmn e
    let k4 := if wasOnline then k3.capacityLoss e else k3
    k4.tell [.capacityChanged]

/-- The state a slot enters in place of STANDBY if it is not to be available (R110). -/
def restState (k : Control) (n : Slot) : SlotState :=
  if k.common.slotEnabled.get n && !k.outOfService (slotBreaker n) then .standby else .unavailable

/-- Whether an operation is this slot's own close. -/
def isOwnClose (n : Slot) (op : Option Operation) : Bool :=
  match op with
  | some op => op.kind = .close && op.party = .gen n
  | none => false

/-- Whether the slot's own close is in flight (R117): its CLOSE is started, or its attempt is in CLOSE_ISSUED, which it
stays until SYE has the report of the close. -/
def ownCloseInFlight (k : Control) (n : Slot) : Bool :=
  isOwnClose n (k.breaker (slotBreaker n)).op || closeIssued k (attemptFor k (.gen n))

/-- The end of a slot's activity (R113): its attempt, its claim or claim request, its reservation. -/
def Control.endActivity (e : Sensed) (k : Control) (n : Slot) : Control :=
  let b := slotBreaker n
  let k1 := match attemptFor k (.gen n) with
    | some m => k.endAttempt e m .cancelled none none
    | none => k
  (k1.endClaims e b (.gen n) .cancelled).releaseReservation b (.gen n)

/-- A slot enters FAILED (R122). -/
def Control.failSlot (e : Sensed) (k : Control) (n : Slot) (cause : Cause) : Control :=
  (k.endActivity e n).setSlotState e n .failed cause

/-- A slot's activity ended into STANDBY, or UNAVAILABLE if it is not to be available (R110).
DESIGN CHOICE: assumption 103. -/
def Control.restSlot (e : Sensed) (k : Control) (n : Slot) (cause : Cause) : Control :=
  let k1 := k.endActivity e n
  k1.setSlotState e n (restState k1 n) cause

/-- The OPEN of Gn demanded in UNLOADING (R121): both timers stop. One that is refused counts as demanded and is not
demanded again. DESIGN CHOICE: assumption 97. -/
def Control.demandSlotOpen (e : Sensed) (k : Control) (n : Slot) : Control :=
  ((k.bcuOpen e (slotBreaker n) (.gen n)).1).modSlot n fun r =>
    { r with openDemanded := true, timer := .off, ramp := .off }

/-- Whether a STOP of an ONLINE slot would take the last source (R113). -/
def lastSource (k : Control) (n : Slot) : Bool :=
  someBusInGen k && Slot.all.all fun m => m = n || (k.slot m).state ≠ .online

/-- A slot's deferred stop acted on when its close has completed (R117). DEDUCED: assumption 31. -/
def Control.actDeferred (e : Sensed) (k : Control) (n : Slot) : Control :=
  if !(k.slot n).deferredStop then k
  else
    let k1 := k.modSlot n fun r => { r with deferredStop := false }
    if lastSource k1 n then k1
    else (k1.modSlot n fun r => { r with barred := true }).setSlotState e n .unloading .stop

/-- A slot's own close has completed (R116 to R118). -/
def Control.slotCompleted (e : Sensed) (k : Control) (n : Slot) : Control :=
  (k.setSlotState e n .online .completed).actDeferred e n

/-- Loss of READY of a slot (R115, R117, R119, R121). -/
def Control.readyLost (e : Sensed) (k : Control) (n : Slot) : Control :=
  match (k.slot n).state with
  | .awaitingBus => k.failSlot e n .readyLost
  | .closing | .synchronizing =>
    if ownCloseInFlight k n then
      let k1 := match attemptFor k (.gen n) with
        | some m => k.endAttempt e m .cancelled none none
        | none => k
      let k2 := k1.endClaims e (slotBreaker n) (.gen n) .cancelled
      ((k2.bcuOpen e (slotBreaker n) (.gen n)).1).failSlot e n .readyLost
    else k.failSlot e n .readyLost
  | .online => ((k.bcuOpen e (slotBreaker n) (.gen n)).1).failSlot e n .readyLost
  | .unloading =>
    let k1 := if (k.slot n).openDemanded then k else (k.bcuOpen e (slotBreaker n) (.gen n)).1
    k1.failSlot e n .readyLost
  | _ => k

/-- Adoption of a close the slot did not make (R120). -/
def Control.adopt (e : Sensed) (k : Control) (n : Slot) : Control :=
  let k1 := k.endActivity e n
  let k2 := k1.modSlot n fun r => { r with demand := .port, barred := false }
  let k3 := k2.setSlotState e n .online .adopted
  if (k3.slot n).ready then k3 else k3.readyLost e n

/-! ## Bringing a slot online -/

/-- The attempt of a slot recorded, its sync wait timer removed (R118). -/
def Control.slotAttempt (k : Control) (n : Slot) (m : AttemptNo) : Control :=
  k.modSlot n fun r => { r with attempt := some m, timer := .off }

/-- Whether a refusal makes SYNCHRONIZING demand again (R118), and SYNC_WAIT likewise (R100). -/
def Reason.syncRetry : Reason → Bool
  | .stale | .voltageIndeterminate | .noAttemptSlot => true
  | _ => false

/-- The close demand of SYNCHRONIZING (R118). DEDUCED: assumption 21. -/
def Control.slotSyncDemand (e : Sensed) (k : Control) (n : Slot) : Control :=
  match k.closeDemand e (slotBreaker n) (.gen n) with
  | (k1, .attempt m) => k1.slotAttempt n m
  | (k1, .refused r) => if r.syncRetry then k1 else k1.failSlot e n .closeRefused
  | (k1, .claim _) => k1.setSlotState e n .awaitingBus .busDead
  | (k1, .acknowledged) => k1.slotCompleted e n
  | (k1, .started) => k1

/-- A slot leaves CLOSING other than into ONLINE (R116): a claim still present is cancelled, its reservation released. -/
def Control.leaveClosing (e : Sensed) (k : Control) (n : Slot) : Control :=
  (k.endClaims e (slotBreaker n) (.gen n) .cancelled).releaseReservation (slotBreaker n) (.gen n)

/-- The reservation with which a slot that has left CLOSING asks for its synchronising close (R25: a GEN requester holds
the reservation when it asks). DEDUCED: assumption 30. -/
def Control.reserveSync (e : Sensed) (k : Control) (n : Slot) : Control := (k.reserve e (slotBreaker n) (.gen n)).1

/-- A slot enters SYNCHRONIZING (R118). -/
def Control.enterSync (e : Sensed) (k : Control) (n : Slot) : Control :=
  (k.setSlotState e n .synchronizing .busLive).slotSyncDemand e n

/-- The close demand of CLOSING (R116), withheld in hold. -/
def Control.slotClaimedDemand (e : Sensed) (k : Control) (n : Slot) : Control :=
  if k.tsq.hold then k
  else match k.closeDemand e (slotBreaker n) (.gen n) with
    | (k1, .attempt m) =>
      (((k1.leaveClosing e n).reserveSync e n).setSlotState e n .synchronizing .busLive).slotAttempt n m
    | (k1, .acknowledged) => k1.slotCompleted e n
    | (k1, _) => k1

/-- Whether a refusal keeps a slot in AWAITING_BUS (R115). -/
def Reason.awaitsBus : Reason → Bool
  | .stale | .voltageIndeterminate | .backfeed => true
  | _ => false

/-- The judgement of GB's class by a slot in AWAITING_BUS that holds its reservation (R115). -/
def Control.judgeBus (e : Sensed) (k : Control) (n : Slot) : Control :=
  let b := slotBreaker n
  if (k.slot n).state ≠ .awaitingBus || (k.breaker b).holder ≠ some (.gen n) then k
  else match classOf e k .gb with
    | .live => k.enterSync e n
    | .indeterminate => k
    | .dead =>
      if isLive e k (slotChannel n) && !k.tsq.hold && !hasClaimRequest k .gb b (.gen n) then
        match k.closeDemand e b (.gen n) with
        | (k1, .refused r) => if r.awaitsBus then k1 else k1.failSlot e n .closeRefused
        | (k1, .acknowledged) => k1.slotCompleted e n
        | (k1, _) => k1
      else k

/-- The reservation demand of a slot in AWAITING_BUS (R115). -/
def Control.awaitReserve (e : Sensed) (k : Control) (n : Slot) : Control :=
  if (k.slot n).state ≠ .awaitingBus || (k.breaker (slotBreaker n)).holder = some (.gen n) then k
  else match k.reserve e (slotBreaker n) (.gen n) with
    | (k1, none) => k1.judgeBus e n
    | (k1, some _) => k1

/-- A slot enters AWAITING_BUS (R115). A reservation it still holds serves on. -/
def Control.enterAwaiting (e : Sensed) (k : Control) (n : Slot) (cause : Cause) : Control :=
  ((k.setSlotState e n .awaitingBus cause).awaitReserve e n).judgeBus e n

/-- The test of a slot in STARTING (R114). -/
def Control.judgeStarting (e : Sensed) (k : Control) (n : Slot) : Control :=
  if (k.slot n).state = .starting && (k.slot n).ready && isLive e k (slotChannel n) then k.enterAwaiting e n .ready
  else k

/-- Whether a slot in SYNCHRONIZING has no attempt or one in EVALUATING, and no close in flight (R118). -/
def syncPending (k : Control) (n : Slot) : Bool :=
  (k.slot n).state = .synchronizing && !ownCloseInFlight k n

/-- SYNCHRONIZING at an accepted frame (R118). -/
def Control.judgeSync (e : Sensed) (k : Control) (n : Slot) : Control :=
  if !syncPending k n then k
  else if classOf e k .gb = .dead then
    let k1 := match attemptFor k (.gen n) with
      | some m => k.endAttempt e m .cancelled none none
      | none => k
    k1.enterAwaiting e n .busDead
  else if (k.slot n).attempt.isNone then k.slotSyncDemand e n
  else k

/-- The unload threshold of a slot in kW (R121). -/
def unloadThreshold (k : Control) (n : Slot) : Nat := k.common.rating.get n * k.common.unloadPercent / 100

/-- The power comparison of UNLOADING at a frame delivered as FRESH (R121). -/
def Control.judgeUnload (e : Sensed) (k : Control) (n : Slot) : Control :=
  if (k.slot n).state = .unloading && !(k.slot n).openDemanded && e.mlr.fresh &&
      e.mlr.image.power.get n ≤ (unloadThreshold k n : Int) then k.demandSlotOpen e n
  else k

/-- A slot in CLOSING whose close has not started repeats its demand (R116). -/
def Control.judgeClosing (e : Sensed) (k : Control) (n : Slot) : Control :=
  if (k.slot n).state = .closing && !ownCloseInFlight k n && holdsClaim k .gb (slotBreaker n) (.gen n) then
    k.slotClaimedDemand e n
  else k

/-- GSC at an accepted frame: each slot judged by its state. -/
def Control.frameSlot (e : Sensed) (k : Control) (n : Slot) : Control :=
  match (k.slot n).state with
  | .starting => k.judgeStarting e n
  | .awaitingBus => k.judgeBus e n
  | .closing => k.judgeClosing e n
  | .synchronizing => k.judgeSync e n
  | .unloading => k.judgeUnload e n
  | _ => k

/-! ## The plan -/

/-- The slot the plan starts next (R111). -/
def nextPlanned (k : Control) : Option Slot :=
  (List.range 6).findSome? fun i =>
    Slot.all.find? fun n =>
      k.common.startOrder.get n = i + 1 && (k.slot n).state = .standby && !(k.slot n).barred

/-- Slots started against the required capacity, at most `n` of them (R111). -/
def Control.planStart (e : Sensed) (k : Control) : Nat → Control
  | 0 => k
  | n + 1 =>
    if committedRating k < k.gsc.required then
      match nextPlanned k with
      | some m =>
        ((k.modSlot m fun r => { r with demand := .plan }).setSlotState e m .starting .plan).planStart e n
      | none => k
    else k

/-- Whether the plan is released (R112). -/
def planReleased (k : Control) : Bool :=
  let off (s : Supply) : Bool := s ≠ .gen && s ≠ .parallel
  k.gsc.required = 0 && off k.tiu.supply.ba && off k.tiu.supply.bb

/-- The effect of a release of the plan on one slot (R112). -/
def Control.releaseSlot (e : Sensed) (k : Control) (n : Slot) : Control :=
  let k1 :=
    if (k.slot n).demand ≠ .plan then k
    else match (k.slot n).state with
      | .starting | .awaitingBus => k.restSlot e n .released
      | .synchronizing =>
        if ownCloseInFlight k n then k.modSlot n fun r => { r with deferredStop := true }
        else k.restSlot e n .released
      | .closing => k.modSlot n fun r => { r with deferredStop := true }
      | .online => k.setSlotState e n .unloading .released
      | _ => k
  k1.modSlot n fun r => { r with barred := false }

/-- An evaluation of the plan (R111, R112). A release takes the slots in ascending number. DESIGN CHOICE: assumption 95. -/
def Control.evaluatePlan (e : Sensed) (k : Control) : Control :=
  if planReleased k then forEach Slot.all (fun n k => k.releaseSlot e n) k else k.planStart e 6

/-! ## Availability of a slot -/

/-- A slot judged by its enabled setting and its breaker's service state (R110, R117). A deferred stop stands when the slot
is enabled again. DESIGN CHOICE: assumption 83. -/
def Control.judgeAvailable (e : Sensed) (k : Control) (n : Slot) (cause : Cause) : Control :=
  let available : Bool := restState k n = .standby
  match (k.slot n).state with
  | .unavailable => if available then k.setSlotState e n .standby cause else k
  | .standby => if available then k else k.setSlotState e n .unavailable cause
  | .starting | .awaitingBus => if available then k else k.restSlot e n cause
  | .synchronizing | .closing =>
    if available then k
    else if ownCloseInFlight k n then k.modSlot n fun r => { r with deferredStop := true }
    else if (k.slot n).state = .synchronizing then k.restSlot e n cause
    else k
  | _ => k

/-- A slot enters COOLDOWN (R121, R122); a cooldown time of 0 passes it on at the same instant. -/
def Control.enterCooldown (e : Sensed) (k : Control) (n : Slot) : Control :=
  let k1 := k.setSlotState e n .cooldown (if (k.slot n).unloadTimedOut then .unloadTimeout else .unloaded)
  if k1.common.cooldownTime = 0 then k1.setSlotState e n (restState k1 n) .cooldownExpired else k1

/-! ## Notices -/

/-- Whether an operation is of a kind. -/
def opIs (op : Option Operation) (kind : OpKind) : Bool :=
  match op with
  | some op => op.kind = kind
  | none => false

/-- The fault cause of a slot whose breaker leaves CLOSED while ONLINE (R119). DEDUCED: assumption 27. -/
def onlineFault (op : Option Operation) : Cause :=
  match op with
  | some op => match op.kind, op.party with
    | .trip, _ => .tripped
    | .opening, .port _ => .operatorOpen
    | _, _ => .uncommandedOpen
  | none => .uncommandedOpen

/-- GSC at a change of Gn's observed state (R119 to R121, R127). DEDUCED: assumption 29. A test close of an out-of-service
Gn is adopted as any other. DESIGN CHOICE: assumption 72. -/
def Control.slotObserved (e : Sensed) (k : Control) (n : Slot) (new : Observed) (op : Option Operation) (first : Bool) :
    Control :=
  match (k.slot n).state with
  | .unavailable => k
  | .online => if new = .closed then k else k.failSlot e n (onlineFault op)
  | .unloading =>
    if opIs op .trip then k.failSlot e n .tripped
    else if new = .opened then k.enterCooldown e n
    else k
  | s =>
    let own : Bool := (s = .closing || s = .synchronizing) && isOwnClose n op
    if new = .closed && !own && (first || op.isNone || opIs op .close) then k.adopt e n else k

/-- GSC at the end of an operation on Gn (R51, R116, R118, R121, R126). In UNLOADING the failure of an OPEN that is not
GSC's own leaves the slot as it is. DESIGN CHOICE: assumption 56. The failure of a TRIP ends UNLOADING as TRIPPED.
DESIGN CHOICE: assumption 84. -/
def Control.slotOpEnded (e : Sensed) (k : Control) (n : Slot) (r : OpReport) : Control :=
  let s := (k.slot n).state
  if isOwnClose n (some r.op) && !r.byAttempt && (s = .closing || s = .synchronizing) then
    match r.fin with
    | .completed => k.slotCompleted e n
    | .failed _ => k.failSlot e n .closeFailed
    | .cut (.port _) _ => k.failSlot e n .operatorOpen
    | .cut _ _ => k.failSlot e n .tripped
  else if s = .unloading then
    match r.op.kind, r.fin with
    | .trip, _ => k.failSlot e n .tripped
    | .opening, .failed _ => if r.op.party = .gen n then k.failSlot e n .openFailed else k
    | _, _ => k
  else k.awaitReserve e n

/-- GSC at a port's open of a breaker it has reserved (R116). -/
def Control.slotOperatorOpen (e : Sensed) (k : Control) (n : Slot) : Control :=
  match (k.slot n).state with
  | .awaitingBus | .synchronizing | .closing => k.failSlot e n .operatorOpen
  | _ => k

/-- GSC at the grant of its claim (R115, R116). -/
def Control.slotGranted (e : Sensed) (k : Control) (n : Slot) : Control :=
  if (k.slot n).state = .awaitingBus && holdsClaim k .gb (slotBreaker n) (.gen n) then
    (k.setSlotState e n .closing .grant).slotClaimedDemand e n
  else k

/-- GSC at the end of its claim or claim request (R115, R116). DEDUCED: assumption 30. -/
def Control.slotClaimEnded (e : Sensed) (k : Control) (n : Slot) (cause : Cause) : Control :=
  match (k.slot n).state, cause with
  | .awaitingBus, .busLive => k.enterSync e n
  | .closing, .refused => if ownCloseInFlight k n then k else k.failSlot e n .closeRefused
  | .closing, .lapsed => if ownCloseInFlight k n then k else (k.leaveClosing e n).enterAwaiting e n .lapsed
  | .closing, .busLive => if ownCloseInFlight k n then k else ((k.leaveClosing e n).reserveSync e n).enterSync e n
  | _, _ => k

/-- GSC at the end of its attempt (R118). -/
def Control.slotAttemptEnded (e : Sensed) (k : Control) (n : Slot) (r : AttemptReport) : Control :=
  if (k.slot n).state = .synchronizing && (k.slot n).attempt = some r.number then
    match r.result, r.fin with
    | .success, _ => k.slotCompleted e n
    | .timeout, _ => k.failSlot e n .syncTimeout
    | .closeFailed, some (.cut (.port _) _) => k.failSlot e n .operatorOpen
    | .closeFailed, some (.cut _ _) => k.failSlot e n .tripped
    | .closeFailed, _ => k.failSlot e n .closeFailed
    | _, _ => k
  else k

/-- GSC at an evaluation report (R124). -/
def Control.slotEvaluated (k : Control) (n : Slot) (slip : Option Int) : Control :=
  match slip with
  | some s =>
    if (k.slot n).state = .synchronizing && !k.tsq.hold then
      let d : Int := 500 + ((k.group.targetSlip - s) * k.group.biasGain).tdiv 1000
      k.modSlot n fun r => { r with duty := clampDuty k d }
    else k
  | none => k

/-- GSC at a change of a channel's state (R114, R115). -/
def Control.channelGsc (e : Sensed) (k : Control) (c : Channel) : Control :=
  match channelSlot c with
  | some n => k.judgeStarting e n
  | none => if c = .gb then forEach Slot.all (fun n k => k.judgeBus e n) k else k

/-- GSC at the end of hold (R115, R116, R123). -/
def Control.holdEndedGsc (e : Sensed) (k : Control) : Control :=
  let k1 := forEach Slot.all
    (fun n k => k.modSlot n fun r =>
      { r with
        ramp := r.ramp.resume e.now
        duty := if r.state = .synchronizing then r.duty else stateDuty k r r.state })
    k
  (forEach Slot.all (fun n k => (k.judgeBus e n).judgeClosing e n) k1).tell [.planEvaluation]

/-- GSC at the start of hold (R121, R123): the ramps are frozen. -/
def Control.holdEnteredGsc (e : Sensed) (k : Control) : Control :=
  forEach Slot.all (fun n k => k.modSlot n fun r => { r with ramp := r.ramp.suspend e.now }) k

/-- Every duty clamped anew after a write of Dmin or Dmax (R123), the duty held in hold too.
DESIGN CHOICE: assumption 57. -/
def Control.reclamp (k : Control) : Control :=
  forEach Slot.all
    (fun n k => k.modSlot n fun r =>
      { r with
        duty := if r.state = .online && !k.tsq.hold then clampDuty k r.setPoint else clampDuty k r.duty })
    k

/-- A sequence reset of one slot (R126). UNLOADING goes by GSC's own demand of the OPEN. DESIGN CHOICE: assumption 82. A slot
that is not to be available enters UNAVAILABLE in place of STANDBY. DESIGN CHOICE: assumption 103. -/
def Control.resetSlotSequence (e : Sensed) (k : Control) (n : Slot) : Control :=
  let k1 := match (k.slot n).state with
    | .starting | .awaitingBus => k.setSlotState e n (restState k n) .sequenceReset
    | .synchronizing | .closing =>
      if ownCloseInFlight k n then k else k.setSlotState e n (restState k n) .sequenceReset
    | .unloading => if (k.slot n).openDemanded then k else k.setSlotState e n .online .sequenceReset
    | _ => k
  k1.modSlot n fun r =>
    { r with
      attempt := none
      deferredStop := false
      barred := false
      demand := if r.demand = .plan then .port else r.demand }

end Sys2Proof.Machine
end

