-- ==== Sys2Proof/Machine/TransferOps.lean ====
section
/-! DEFINITION. What TSQ does with the transfer records (spec/05, R82 to R107). -/

namespace Sys2Proof.Machine

/-! ## Stages and names -/

/-- The number of a stage (section 5.1). -/
def Stage.number : Stage → Nat
  | .pending => 0
  | .reserve => 1
  | .openRetiring => 2
  | .deadWait => 3
  | .sourceWait => 4
  | .preShed => 5
  | .syncWait => 6
  | .closeArriving => 7
  | .overlap => 8

/-- The supply state a target aims at. -/
def Target.supply : Target → Supply
  | .utility => .utility
  | .tie => .tie
  | .gen => .gen

/-- A pre-shed mask as a number, F1 in the least significant bit (spec/11). -/
def maskValue (m : PerBlock Bool) : Nat :=
  (Block.all.map fun f => if m.get f then 2 ^ f.index else 0).sum

/-- The health state of a utility. -/
def health (k : Control) (u : Utility) : Health := (k.smn.health.get u).state

/-! ## Selection -/

/-- The arriving breaker of a target (R89). -/
def arrivingFor (l : Bus) : Target → Breaker
  | .utility => ownIncomer l
  | .tie => .tie
  | .gen => ownMain l

/-- The retiring breaker of a supply at start (R89). -/
def retiringFor (k : Control) (l : Bus) : Supply → Option Breaker
  | .utility => some (ownIncomer l)
  | .tie => some .tie
  | .gen => some (ownMain l)
  | _ =>
    if possiblyClosed k .tie then some .tie
    else if possiblyClosed k (ownMain l) then some (ownMain l)
    else none

/-- The target of a LOSS or RECOVER (R87). -/
def selectTarget (k : Control) (l : Bus) : Option Target :=
  if health k (ownUtility l) = .healthy && usable k (ownIncomer l) then some .utility
  else if k.common.tiePermitted.get l && health k (ownUtility (otherBus l)) = .healthy &&
      k.tiu.supply.get (otherBus l) = .utility && usable k .tie then some .tie
  else if usable k (ownMain l) && someSlotUsable k then some .gen
  else none

/-- The channel of the old source of a supply state (R88); a DEAD bus has none. -/
def oldSource (l : Bus) : Supply → Option Channel
  | .utility => some (utilityChannel (ownUtility l))
  | .tie => some (utilityChannel (ownUtility (otherBus l)))
  | .gen => some .gb
  | _ => none

/-- The channel of the new source of a target (R88). -/
def newSource (l : Bus) : Target → Channel
  | .utility => utilityChannel (ownUtility l)
  | .tie => busChannel (otherBus l)
  | .gen => .gb

/-- Whether old and new source are live as R88 judges them. -/
def sourcesLive (e : Sensed) (k : Control) (l : Bus) (t : Target) : Bool :=
  (match oldSource l (k.tiu.supply.get l) with
    | some c => isLive e k c
    | none => false) &&
    (isLive e k (newSource l t) || (t = .gen && someSlotUsable k))

/-- Whether a move between two supplies is between the two utilities (R88). -/
def twoUtilities (s : Supply) (t : Target) : Bool := (s = .utility || s = .tie) && t ≠ .gen

/-- Whether settings permit a closed transition (R88, R91). -/
def closedPermitted (k : Control) (l : Bus) (t : Target) : Bool :=
  k.common.closedTransition && (!twoUtilities (k.tiu.supply.get l) t || k.common.utilityParallel)

/-- The mode of a RETURN, and of a REQUEST with mode AUTO (R88). -/
def autoMode (e : Sensed) (k : Control) (l : Bus) (t : Target) : Mode :=
  if closedPermitted k l t && sourcesLive e k l t then .closedTransition else .openTransition

/-! ## Required capacity and timers -/

/-- The required capacity recomputed and, at a change, handed to GSC (R97). -/
def Control.updateRequired (k : Control) : Control :=
  let v := requiredCapacity k
  if v = k.tsq.required then k
  else
    ({ k with tsq := { k.tsq with required := v }, gsc := { k.gsc with required := v } } : Control).tell
      [.planEvaluation, .progress .ba, .progress .bb]

/-- A stage timer started, or frozen at once in hold (R93, R105). A length of 0 has run out at the start. -/
def stageTimer (e : Sensed) (k : Control) (len : Nat) : Timer :=
  if len = 0 then .off else .startOr k.tsq.hold e.now len

/-- The timer of a stage (R94 to R100). DEDUCED: assumption 18. -/
def Stage.timer (e : Sensed) (k : Control) (x : TransferRec) : Stage → Timer
  | .reserve => stageTimer e k 2000
  | .deadWait => stageTimer e k k.common.deadTime
  | .sourceWait => if x.target = some .gen then stageTimer e k (k.common.generatorWait * 1000) else .off
  | .syncWait => stageTimer e k 10000
  | .closeArriving => if x.mode = .openTransition then stageTimer e k 10000 else .off
  | _ => .off

/-- Whether a transfer is in a stage. -/
def inStage (k : Control) (l : Bus) (s : Stage) : Bool := (k.xfer l).inProgress && (k.xfer l).stage = some s

/-! ## Ends -/

/-- Whether a result arms RECOVER on a DEAD bus (R86, R103). -/
def Cause.arms : Cause → Bool
  | .done | .cancelled => false
  | _ => true

/-- RECOVER armed after an end (R103, step 6). -/
def armedAfter (k : Control) (l : Bus) (result : Cause) : Bool :=
  if result.arms then (k.tiu.supply.get l = .dead) || (k.xfer l).recoverArmed
  else if result = .cancelled then false
  else (k.xfer l).recoverArmed

/-- The attempt of a transfer, if one is in progress, cancelled (R103, step 1). -/
def Control.cancelTransferAttempt (e : Sensed) (k : Control) (l : Bus) : Control :=
  match attemptFor k (.transfer l) with
  | some n => k.endAttempt e n .cancelled none none
  | none => k

/-- What a transfer does with one of its breakers at its end: claims cancelled, reservation released. -/
def Control.letGo (e : Sensed) (k : Control) (l : Bus) (b : Option Breaker) : Control :=
  match b with
  | some b => (k.endClaims e b (.transfer l) .cancelled).releaseReservation b (.transfer l)
  | none => k

/-- The record at the end of a transfer (R103, step 4). -/
def TransferRec.ended (x : TransferRec) (result : Cause) : TransferRec :=
  { x with
    result := result
    stepPending := false
    inProgress := false
    stage := none
    timer := .off
    needsGen := false
    retry := false }

/-- The end procedure (R103). Its step 8 is taken up after all that the block does at the same occasion.
DESIGN CHOICE: assumption 100. -/
def Control.endTransfer (e : Sensed) (k : Control) (l : Bus) (result : Cause) : Control :=
  let x := k.xfer l
  let k1 := ((k.cancelTransferAttempt e l).letGo e l x.arriving).letGo e l x.retiring
  let k2 := k1.modXfer l fun x => x.ended result
  let k3 : Control := { k2 with tsq := { k2.tsq with reserveOrder := k2.tsq.reserveOrder.filter (·.1 ≠ l) } }
  let k4 := k3.updateRequired
  let k5 := k4.modXfer l fun x => { x with recoverArmed := armedAfter k4 l result }
  (k5.record e .transferResult (.bus (busClaim l)) result (maskValue x.preShedMask)).tell [.triggers]

/-! ## Entry demands -/

/-- Whether a transfer holds a breaker's reservation. -/
def reservedFor (k : Control) (l : Bus) (b : Option Breaker) : Bool :=
  match b with
  | some b => (k.breaker b).holder = some (.transfer l)
  | none => true

/-- The order of first refusals with one more transfer (R94): it joins last, but BA before a BB of the same instant, which
is one value of the millisecond counter. DEDUCED: assumption 20. -/
def joinRefusals (l : Bus) (now : Word32) : List (Bus × Word32) → List (Bus × Word32)
  | [] => [(l, now)]
  | x :: rest => if x.2 = now && l = .ba then (l, now) :: x :: rest else x :: joinRefusals l now rest

/-- A transfer refused a reservation, noted at its first refusal (R94). -/
def Control.noteRefusal (e : Sensed) (k : Control) (l : Bus) : Control :=
  if k.tsq.reserveOrder.any (fun x => x.1 = l) then k
  else { k with tsq := { k.tsq with reserveOrder := joinRefusals l e.now k.tsq.reserveOrder } }

/-- One reservation demand of RESERVE (R94): `false` if it ends the transfer. -/
def Control.reserveOne (e : Sensed) (k : Control) (l : Bus) (b : Option Breaker) : Control × Bool :=
  match b with
  | none => (k, true)
  | some b =>
    if (k.breaker b).holder = some (.transfer l) then (k, true)
    else match k.reserve e b (.transfer l) with
      | (k1, none) => (k1, true)
      | (k1, some .busy) | (k1, some .reserved) => (k1.noteRefusal e l, true)
      | (k1, some _) => (k1, false)

/-- The reservation demands of RESERVE, retiring first (R94). -/
def Control.reserveDemands (e : Sensed) (k : Control) (l : Bus) : Control :=
  match k.reserveOne e l (k.xfer l).retiring with
  | (k1, false) => k1.endTransfer e l .resourceBusy
  | (k1, true) => match k1.reserveOne e l (k1.xfer l).arriving with
    | (k2, false) => k2.endTransfer e l .resourceBusy
    | (k2, true) => k2.tell [.progress l]

/-- The OPEN of the retiring breaker (R95, R101). -/
def Control.openRetiring (e : Sensed) (k : Control) (l : Bus) : Control :=
  match (k.xfer l).retiring with
  | some b => (k.bcuOpen e b (.transfer l)).1
  | none => k

/-- The end of OVERLAP, if the retiring breaker is observed OPEN (R101). -/
def Control.overlapDone (e : Sensed) (k : Control) (l : Bus) : Control :=
  match (k.xfer l).retiring with
  | some b => if (k.breaker b).observed = .opened then k.endTransfer e l .done else k
  | none => k

/-- The close of an open transition has started (R99); a step pending is used by it (R106). -/
def Control.arrivalStarted (k : Control) (l : Bus) : Control :=
  k.modXfer l fun x => { x with closeStarted := true, timer := .off, retry := false, stepPending := false }

/-- The close demand of a transfer's arriving breaker. -/
def Control.arrivingDemand (e : Sensed) (k : Control) (l : Bus) : Control × Answer :=
  match (k.xfer l).arriving with
  | some b => k.closeDemand e b (.transfer l)
  | none => (k, .refused .inconsistent)

/-- The effect on CLOSE_ARRIVING of the answer to its close demand (R99). -/
def Control.arrivalAnswer (e : Sensed) (k : Control) (l : Bus) : Answer → Control
  | .started => k.arrivalStarted l
  | .acknowledged => k.endTransfer e l .done
  | .claim _ => k.modXfer l fun x => { x with retry := false }
  | .attempt _ => k.endTransfer e l .supplyChanged
  | .refused r =>
    if r.keepsClaim then k.modXfer l fun x => { x with retry := true } else k.endTransfer e l .arrivingFailed

/-- Whether a transfer holds its bus's claim for its arriving breaker. -/
def arrivalClaimHeld (k : Control) (l : Bus) : Bool :=
  match (k.xfer l).arriving with
  | some b => holdsClaim k (busClaim l) b (.transfer l)
  | none => false

/-- The close demand of CLOSE_ARRIVING in open mode (R99, R106): a claim granted at once is followed by the demand
under it. -/
def Control.arrivalDemand (e : Sensed) (k : Control) (l : Bus) : Control :=
  let (k1, a) := k.arrivingDemand e l
  match a, arrivalClaimHeld k1 l with
  | .claim _, true =>
    let (k2, a2) := k1.arrivingDemand e l
    k2.arrivalAnswer e l a2
  | a, _ => k1.arrivalAnswer e l a

/-- A pending step passed to the transfer's attempt as its step permission, while that attempt is in EVALUATING
(R106). -/
def Control.passStep (k : Control) (l : Bus) (n : AttemptNo) : Control :=
  match k.attempt n with
  | some a =>
    if (k.xfer l).stepPending && a.state = .evaluating then
      (k.modXfer l fun x => { x with stepPending := false }).setAttempt n { a with stepPermission := true }
    else k
  | none => k

/-- A transfer's record and event at entry into a stage (R93); a pending step is used by it, in hold as outside it
(R106). In OVERLAP the close counts as started, acknowledged ones too (R92). DESIGN CHOICE: assumption 98. -/
def Control.takeStage (e : Sensed) (k : Control) (l : Bus) (s : Stage) : Control :=
  let k1 := k.modXfer l fun x =>
    { x with
      stage := some s
      timer := s.timer e k x
      stepPending := false
      needsGen := x.needsGen || (s = .sourceWait && x.target = some .gen)
      closeStarted := x.closeStarted || s = .overlap
      retry := false }
  let k2 := k1.record e .transferStage (.bus (busClaim l)) (k1.xfer l).origin s.number
  k2.updateRequired

/-- The demands at entry into OVERLAP (R101): the OPEN of the retiring breaker, at once. -/
def Control.overlapDemands (e : Sensed) (k : Control) (l : Bus) : Control := (k.openRetiring e l).overlapDone e l

/-- The close demand of SYNC_WAIT (R100). An acknowledgement is taken as the close's completion (R46), and another outcome
that R100 does not list ends the transfer as a refusal for any other reason does. DEDUCED: assumption 21. -/
def Control.transferSyncDemand (e : Sensed) (k : Control) (l : Bus) : Control :=
  match k.arrivingDemand e l with
  | (k1, .attempt n) =>
    (k1.modXfer l fun x => { x with attempt := some n, timer := .off, retry := false }).passStep l n
  | (k1, .refused r) =>
    if r.syncRetry then k1.modXfer l fun x => { x with retry := true } else k1.endTransfer e l .arrivingFailed
  | (k1, .acknowledged) => (k1.takeStage e l .overlap).overlapDemands e l
  | (k1, .started) | (k1, .claim _) => k1.endTransfer e l .arrivingFailed

/-- Whether the target of SOURCE_WAIT stands (R97): for GEN it is waited for. -/
def targetHealthy (k : Control) (l : Bus) : Option Target → Bool
  | some .utility => health k (ownUtility l) = .healthy
  | some .tie => health k (ownUtility (otherBus l)) = .healthy && k.tiu.supply.get (otherBus l) = .utility
  | _ => true

/-- The pre-shed of a transfer (R98). -/
def Control.transferPreShed (e : Sensed) (k : Control) (l : Bus) : Control :=
  let (k1, out) := (k.modXfer l fun x => { x with preShedDone := false }).preShed e l
  k1.modXfer l fun x => { x with preShedMask := .ofFn fun f => out.contains f }

/-- The entry demands of a stage (R94 to R101). -/
def Control.entryDemands (e : Sensed) (k : Control) (l : Bus) : Stage → Control
  | .reserve => k.reserveDemands e l
  | .openRetiring => (k.openRetiring e l).tell [.progress l]
  | .sourceWait =>
    if targetHealthy k l (k.xfer l).target then k.tell [.progress l] else k.endTransfer e l .targetLost
  | .preShed => k.transferPreShed e l
  | .syncWait => k.transferSyncDemand e l
  | .closeArriving => if (k.xfer l).mode = .openTransition then k.arrivalDemand e l else k
  | .overlap => k.overlapDemands e l
  | .pending | .deadWait => k.tell [.progress l]

/-- Entry into a stage with its entry demands (R93). -/
def Control.enterStage (e : Sensed) (k : Control) (l : Bus) (s : Stage) : Control :=
  (k.takeStage e l s).entryDemands e l s

/-! ## Transitions -/

/-- The stage that follows a stage whose condition is met, or none (R93 to R100). The passages into closed
CLOSE_ARRIVING and out of OVERLAP follow reports and stand elsewhere. OPEN_RETIRING goes by the observed state alone,
whatever operation is in flight. DESIGN CHOICE: assumption 102. -/
def nextStage (e : Sensed) (k : Control) (l : Bus) : Option Stage :=
  let x := k.xfer l
  let isOpen : Bool := x.mode = .openTransition
  match x.stage with
  | some .pending => some .reserve
  | some .reserve =>
    if reservedFor k l x.retiring && reservedFor k l x.arriving then some (if isOpen then .openRetiring else .sourceWait)
    else none
  | some .openRetiring =>
    let out : Bool := match x.retiring with
      | some b => (k.breaker b).observed = .opened
      | none => true
    if out then some .deadWait else none
  | some .deadWait =>
    if !x.timer.active && e.mlr.fresh && e.mlr.image.volt.get (busChannel l) ≤ k.common.residualThreshold then
      some .sourceWait
    else none
  | some .sourceWait =>
    if x.target = some .gen then
      if k.smn.gbAvailable && k.tsq.required ≤ capacityOnline k then some .preShed else none
    else some (if isOpen then .closeArriving else .syncWait)
  | some .preShed => if x.preShedDone then some (if isOpen then .closeArriving else .syncWait) else none
  | _ => none

/-- Take a transition that may be taken now: outside hold, or by a pending step (R105, R106). -/
def Control.advanceTransfer (e : Sensed) (k : Control) (l : Bus) : Control :=
  if !(k.xfer l).inProgress || (k.tsq.hold && !(k.xfer l).stepPending) then k
  else match nextStage e k l with
    | some s => k.enterStage e l s
    | none => k

/-! ## Creation and triggers -/

/-- The record of a transfer at its creation (R90). -/
def createdTransfer (k : Control) (l : Bus) (origin : Cause) (target : Option Target) (mode : Mode)
    (x : TransferRec) : TransferRec :=
  { x with
    inProgress := true
    origin := origin
    target := target
    mode := mode
    stage := none
    timer := .off
    supplyAtStart := k.tiu.supply.get l
    retiring := retiringFor k l (k.tiu.supply.get l)
    arriving := target.map (arrivingFor l)
    attempt := none
    closeStarted := false
    preShedMask := .ofFn fun _ => false
    stepPending := false
    result := .none
    recoverArmed := false
    needsGen := false
    retry := false
    preShedDone := false
    serial := x.serial + 1 }

/-- A transfer created (R90); a LOSS without a target ends at once. -/
def Control.createTransfer (e : Sensed) (k : Control) (l : Bus) (origin : Cause) (target : Option Target) (mode : Mode) :
    Control :=
  let k1 := k.modXfer l (createdTransfer k l origin target mode)
  match target with
  | none => k1.endTransfer e l .noSource
  | some _ => k1.enterStage e l (if k1.tsq.hold then .pending else .reserve)

/-- Whether the LOSS condition holds (R84). -/
def lossHolds (k : Control) (l : Bus) : Bool :=
  match k.tiu.supply.get l with
  | .utility => health k (ownUtility l) = .lost
  | .tie => health k (ownUtility (otherBus l)) = .lost
  | .gen => k.tsq.gbLost
  | _ => false

/-- Whether the RETURN condition holds and may start a transfer (R85, R87). -/
def returnHolds (k : Control) (l : Bus) : Bool :=
  (k.tiu.supply.get l = .tie || k.tiu.supply.get l = .gen) && health k (ownUtility l) = .healthy &&
    k.common.autoRetransfer.get l && usable k (ownIncomer l)

/-- Whether the RECOVER condition holds, but for its target (R86). -/
def recoverHolds (k : Control) (l : Bus) : Bool := (k.xfer l).recoverArmed && k.tiu.supply.get l = .dead

/-- Whether triggers may start a transfer on a bus at all (R83). DESIGN CHOICE: assumption 6. -/
def triggersOpen (k : Control) (l : Bus) : Bool :=
  !(k.xfer l).inProgress && k.common.autoTransfer.get l && k.tsq.startUpEnded && k.tiu.supply.get l ≠ .parallel &&
    !k.tsq.autoStarted.get l

/-- A transfer created by a trigger. -/
def Control.autoCreate (e : Sensed) (k : Control) (l : Bus) (origin : Cause) (target : Option Target) (mode : Mode) :
    Control :=
  ({ k with tsq := { k.tsq with autoStarted := k.tsq.autoStarted.set l true } } : Control).createTransfer e l origin
    target mode

/-- The automatic triggers of a bus (R83 to R88). -/
def Control.evaluateTriggers (e : Sensed) (k : Control) (l : Bus) : Control :=
  if !triggersOpen k l then k
  else if lossHolds k l then k.autoCreate e l .loss (selectTarget k l) .openTransition
  else if returnHolds k l then k.autoCreate e l .returnToUtility (some .utility) (autoMode e k l .utility)
  else if recoverHolds k l then
    match selectTarget k l with
    | some t => k.autoCreate e l .recover (some t) .openTransition
    | none => k
  else k

/-- The triggers of both buses, BA first (R83). -/
def Control.triggers (e : Sensed) (k : Control) : Control := (k.evaluateTriggers e .ba).evaluateTriggers e .bb

/-! ## The GB loss timer -/

/-- The GB loss timer kept to its condition (R84). DEDUCED: assumption 40. -/
def Control.judgeGbLoss (e : Sensed) (k : Control) : Control :=
  if someBusInGen k && !k.smn.gbAvailable then
    if k.tsq.gbLossTimer.active || k.tsq.gbLost then k
    else { k with tsq := { k.tsq with gbLossTimer := .startOr (!e.mlr.fresh) e.now k.group.lossDelay } }
  else { k with tsq := { k.tsq with gbLossTimer := .off, gbLost := false } }

/-- The GB loss timer at a change of staleness (R84). -/
def Control.stalenessTsq (e : Sensed) (k : Control) : Control :=
  { k with tsq := { k.tsq with
      gbLossTimer := if e.mlr.fresh then k.tsq.gbLossTimer.resume e.now else k.tsq.gbLossTimer.suspend e.now } }

/-! ## Aborts -/

/-- Whether a transfer stands in a stage in which the loss of its target ends it (R102). -/
def targetTested (k : Control) (l : Bus) : Bool :=
  inStage k l .preShed || inStage k l .syncWait || (inStage k l .closeArriving && !(k.xfer l).closeStarted)

/-- A transfer whose attempt's close has been issued, though TSQ has yet to hear of it. -/
def issuePending (k : Control) (l : Bus) : Bool := closeIssued k (attemptFor k (.transfer l))

/-- The utility whose loss loses the target of a transfer (R102). -/
def targetUtility (l : Bus) : Option Target → Option Utility
  | some .utility => some (ownUtility l)
  | some .tie => some (ownUtility (otherBus l))
  | _ => none

/-- A transfer whose target has just been lost ends TARGET_LOST, in the stages R102 names; a loss in another stage ends
nothing later. DEDUCED: assumption 42. -/
def Control.loseTarget (e : Sensed) (k : Control) (l : Bus) : Control :=
  if targetTested k l && !issuePending k l then k.endTransfer e l .targetLost else k

/-- Whether a transfer waits for or holds a claim on its bus. -/
def transferClaims (k : Control) (l : Bus) : Bool :=
  match (k.xfer l).arriving with
  | some b => hasClaimRequest k (busClaim l) b (.transfer l)
  | none => false

/-- Whether a change of its bus's supply state ends a transfer (R102). -/
def supplyEnds (k : Control) (l : Bus) : Bool :=
  let x := k.xfer l
  let now := k.tiu.supply.get l
  match x.mode, x.stage with
  | _, some .reserve => now ≠ x.supplyAtStart
  | .closedTransition, some .sourceWait | .closedTransition, some .preShed => now ≠ x.supplyAtStart
  | .closedTransition, some .syncWait => now ≠ x.supplyAtStart && !issuePending k l
  | .openTransition, some .deadWait | .openTransition, some .sourceWait | .openTransition, some .preShed => now ≠ .dead
  | .openTransition, some .closeArriving => now ≠ .dead && !x.closeStarted && !transferClaims k l
  | _, _ => false

/-- Whether the other bus's transfer has its target on this bus, which has just left UTILITY (R102). -/
def tieTargetLeft (k : Control) (l : Bus) (old : Supply) : Bool :=
  old = .utility && k.tiu.supply.get l ≠ .utility && (k.xfer (otherBus l)).target = some .tie

/-- TSQ at a change of a bus supply state from `old` (R67, R83, R84, R86, R97, R102). -/
def Control.supplyTsq (e : Sensed) (k : Control) (l : Bus) (old : Supply) : Control :=
  let k1 := k.judgeGbLoss e
  let k2 :=
    if k1.tiu.supply.get l = .dead then k1 else k1.modXfer l fun x => { x with recoverArmed := false }
  let k3 := if (k2.xfer l).inProgress && supplyEnds k2 l then k2.endTransfer e l .supplyChanged else k2
  let k4 := if tieTargetLeft k3 l old then k3.loseTarget e (otherBus l) else k3
  (k4.updateRequired).tell [.triggers]

/-- Whether a cause is one of the protection causes of R102. -/
def Cause.protects : Cause → Bool
  | .overcurrent | .instantaneous | .reversePower | .backup => true
  | _ => false

/-- The result with which a cut of its own close ends a transfer (R99, R101, R102). DEDUCED: assumption 41. -/
def cutResult (p : Party) (c : Cause) : Cause :=
  if c = .overlapExceeded then .overlapExceeded
  else if c.protects then .protectionTrip
  else match p with
    | .port _ => .operatorOpen
    | _ => .arrivingFailed

/-- TSQ at a trip of a reserved breaker: ends the transfer by its cause (R101, R102). -/
def Control.tripEnds (e : Sensed) (k : Control) (l : Bus) (c : Cause) : Control :=
  if !(k.xfer l).inProgress then k
  else if c.protects then k.endTransfer e l .protectionTrip
  else if c = .overlapExceeded && inStage k l .overlap then k.endTransfer e l .overlapExceeded
  else k

/-- TSQ at the end of an OPEN or TRIP that ends the transfer by no cause of its own (R95, R101): a retiring breaker that
did not open ends it RETIRING_FAILED, whoever demanded the operation; one that opened ends OVERLAP, or lets OPEN_RETIRING
be judged. -/
def Control.retiringEnded (e : Sensed) (k : Control) (l : Bus) (b : Breaker) (fin : OpEnd) : Control :=
  if (k.xfer l).retiring ≠ some b then k.tell [.progress l]
  else match fin with
    | .failed _ =>
      if inStage k l .openRetiring || inStage k l .overlap then k.endTransfer e l .retiringFailed else k
    | _ => if inStage k l .overlap then k.endTransfer e l .done else k.tell [.progress l]

/-- Whether a trip's cause ends a transfer by itself (R101, R102). -/
def tripDecides (k : Control) (l : Bus) (c : Cause) : Bool :=
  c.protects || (c = .overlapExceeded && inStage k l .overlap)

/-- Whether an operation was demanded by the transfer now in the bus's record: an earlier transfer of the bus may have
left one in flight (R103, R107). -/
def ownOperation (k : Control) (l : Bus) (op : Operation) : Bool :=
  op.party = .transfer l && op.serial = (k.xfer l).serial

/-- TSQ at the end of an operation on a breaker it has reserved (R51, R95, R99, R101, R102). The failure and the cut of its
own close end the transfer; of another's close, only a trip that R101 or R102 names does. -/
def Control.transferOpEnded (e : Sensed) (k : Control) (l : Bus) (r : OpReport) : Control :=
  let x := k.xfer l
  let own := ownOperation k l r.op
  if !x.inProgress then k
  else match r.op.kind, r.fin with
    | .close, .completed =>
      if (own || x.mode = .openTransition) && inStage k l .closeArriving && x.arriving = some r.breaker then
        k.endTransfer e l .done
      else k
    | .close, .failed _ => if own && x.arriving = some r.breaker then k.endTransfer e l .arrivingFailed else k
    | .close, .cut p c =>
      if own then k.endTransfer e l (cutResult p c)
      else if tripDecides k l c then k.tripEnds e l c
      else k
    | .trip, fin =>
      if tripDecides k l r.op.cause then k.tripEnds e l r.op.cause else k.retiringEnded e l r.breaker fin
    | .opening, fin => k.retiringEnded e l r.breaker fin

/-- TSQ at an uncommanded change of a breaker it has reserved (R57, R95, R99, R101, R102). DEDUCED: assumption 43. -/
def Control.transferObserved (e : Sensed) (k : Control) (l : Bus) (b : Breaker) (new : Observed) : Control :=
  let x := k.xfer l
  if !x.inProgress then k
  else if new = .opened && x.arriving = some b && x.closeStarted then k.endTransfer e l .operatorOpen
  else if new = .opened && x.retiring = some b && inStage k l .overlap then k.endTransfer e l .done
  else if new = .closed && x.arriving = some b && inStage k l .closeArriving && x.mode = .openTransition then
    k.endTransfer e l .done
  else k.tell [.progress l]

/-- TSQ at the end of its claim or claim request (R99, R102). -/
def Control.transferClaimEnded (e : Sensed) (k : Control) (l : Bus) (b : Breaker) (cause : Cause) : Control :=
  let x := k.xfer l
  if !(inStage k l .closeArriving && x.mode = .openTransition && !x.closeStarted && x.arriving = some b) then k
  else match cause with
    | .busLive =>
      let done : Bool :=
        (k.breaker b).observed = .closed && x.target.map Target.supply = some (k.tiu.supply.get l)
      k.endTransfer e l (if done then .done else .supplyChanged)
    | .lapsed | .refused => k.endTransfer e l .arrivingFailed
    | _ => k

/-- TSQ at the grant of its claim (R99, R105, R106): withheld in hold, unless a step is pending. -/
def Control.transferGranted (e : Sensed) (k : Control) (l : Bus) : Control :=
  let x := k.xfer l
  if !(inStage k l .closeArriving && x.mode = .openTransition && !x.closeStarted && transferClaims k l) then k
  else if k.tsq.hold && !x.stepPending then k
  else k.arrivalDemand e l

/-- TSQ at SYE's report that its close has been issued (R100). -/
def Control.transferIssued (e : Sensed) (k : Control) (l : Bus) (n : AttemptNo) : Control :=
  if inStage k l .syncWait && (k.xfer l).attempt = some n then
    (k.modXfer l fun x => { x with closeStarted := true }).enterStage e l .closeArriving
  else k

/-- TSQ at the end of its attempt (R100, R101). -/
def Control.transferAttemptEnded (e : Sensed) (k : Control) (l : Bus) (r : AttemptReport) : Control :=
  if (k.xfer l).attempt ≠ some r.number || !(inStage k l .syncWait || inStage k l .closeArriving) then k
  else match r.result, r.fin with
    | .success, _ => k.enterStage e l .overlap
    | .timeout, _ => k.endTransfer e l .syncTimeout
    | .closeFailed, some (.cut p c) => k.endTransfer e l (cutResult p c)
    | .closeFailed, _ => k.endTransfer e l .arrivingFailed
    | _, _ => k

/-- TSQ at an overlap expiry (R101), BA before BB. DESIGN CHOICE: assumption 95. -/
def Control.overlapTsq (e : Sensed) (k : Control) (group : PerChannel Bool) : Control :=
  forEach Bus.all
    (fun l k => if inStage k l .overlap && group.get (busChannel l) then k.endTransfer e l .overlapExceeded else k) k

/-- A transfer that waits to demand again does so (R99, R100), outside hold or with a step pending (R105, R106). -/
def Control.retryTransfer (e : Sensed) (k : Control) (l : Bus) : Control :=
  if (k.tsq.hold && !(k.xfer l).stepPending) || !(k.xfer l).retry then k
  else if inStage k l .closeArriving && !(k.xfer l).closeStarted then k.arrivalDemand e l
  else if inStage k l .syncWait then k.transferSyncDemand e l
  else k

/-- TSQ at an accepted frame (R96, R99, R100), BA before BB. DESIGN CHOICE: assumption 95. -/
def Control.frameTsq (e : Sensed) (k : Control) : Control :=
  forEach Bus.all
    (fun l k =>
      let k1 := if e.mlr.fresh && inStage k l .deadWait then k.tell [.progress l] else k
      k1.retryTransfer e l)
    k

/-- A transfer in RESERVE repeats its refused demands (R94), outside hold or with a step pending (R105, R106). -/
def Control.repeatReserve (e : Sensed) (k : Control) (l : Bus) : Control :=
  if inStage k l .reserve && (!k.tsq.hold || (k.xfer l).stepPending) then k.reserveDemands e l else k

/-- The waiting transfers repeat their demands in the order of their first refusals (R94). -/
def Control.repeatReserves (e : Sensed) (k : Control) : Control :=
  forEach k.tsq.reserveOrder (fun x k => k.repeatReserve e x.1) k

/-! ## Hold and step -/

/-- The stage timers frozen (R105). -/
def Control.freezeStages (e : Sensed) (k : Control) : Control :=
  forEach Bus.all (fun l k => k.modXfer l fun x => { x with timer := x.timer.suspend e.now }) k

/-- Every step withdrawn, in the records and in the attempts, and the stage timers resumed (R104). -/
def Control.withdrawSteps (e : Sensed) (k : Control) : Control :=
  let k1 := forEach Bus.all
    (fun l k => k.modXfer l fun x => { x with stepPending := false, timer := x.timer.resume e.now }) k
  { k1 with sye := { k1.sye with
      slots := .ofFn fun n => (k1.sye.slots.get n).map fun a => { a with stepPermission := false } } }

/-- The close withheld from a transfer by hold, demanded at its end (R100, R104): under a claim still held, or that of a
SYNC_WAIT without an attempt. -/
def Control.withheldDemands (e : Sensed) (k : Control) (l : Bus) : Control :=
  if inStage k l .closeArriving && (k.xfer l).mode = .openTransition && !(k.xfer l).closeStarted &&
      arrivalClaimHeld k l then
    k.arrivalDemand e l
  else if inStage k l .syncWait && (k.xfer l).attempt.isNone then k.transferSyncDemand e l
  else k

/-- The part enters hold (R104, R105, R121, R138). -/
def Control.enterHold (e : Sensed) (k : Control) (p : Port) : Control :=
  let k1 := ({ k with tsq := { k.tsq with hold := true } } : Control).record e .holdEntered (.port p)
    (Config.unstatedCause .holdEntered k.erq.nextSeq) (Config.unstatedValue .holdEntered k.erq.nextSeq)
  let k2 := (k1.freezeStages e).holdEnteredGsc e
  { k2 with ldm := { k2.ldm with restoreTimer := k2.ldm.restoreTimer.suspend e.now } }

/-- The part leaves hold (R104). -/
def Control.leaveHold (e : Sensed) (k : Control) (cause : Cause) : Control :=
  let k1 := ({ k with tsq := { k.tsq with hold := false } } : Control).record e .holdLeft
    (Config.unstatedSubject .holdLeft k.erq.nextSeq) cause (Config.unstatedValue .holdLeft k.erq.nextSeq)
  (k1.withdrawSteps e).tell [.progress .ba, .progress .bb, .holdEnded]

/-- What the end of hold brings about after the transitions (R104): the reservation demands withheld, in the order of
their first refusals (R94), the closes withheld, GSC, LDM. DEDUCED: assumption 23. -/
def Control.holdEnded (e : Sensed) (k : Control) : Control :=
  let k1 := ((k.repeatReserves e).withheldDemands e .ba).withheldDemands e .bb
  let k2 := k1.holdEndedGsc e
  ({ k2 with ldm := { k2.ldm with restoreTimer := k2.ldm.restoreTimer.resume e.now } } : Control).tell [.seekRestore]

/-- A STEP used at once where it can be (R106): what a stage waits to demand is demanded again, and the step is spent by
the transition that follows, or passed to the attempt. DEDUCED: assumption 22. -/
def Control.useStep (e : Sensed) (k : Control) (l : Bus) : Control :=
  let x := k.xfer l
  if inStage k l .syncWait then
    match x.attempt with
    | some n => k.passStep l n
    | none => k.transferSyncDemand e l
  else if inStage k l .closeArriving then
    if x.mode = .openTransition && !x.closeStarted && (arrivalClaimHeld k l || !transferClaims k l) then
      k.arrivalDemand e l
    else k
  else if inStage k l .reserve then k.reserveDemands e l
  else k.advanceTransfer e l

end Sys2Proof.Machine
end

