-- ==== Sys2Proof/Machine/Notices.lean ====
section
/-! DEFINITION. How a block takes up what another has told it, and how a step runs until nothing is left to take up. -/

namespace Sys2Proof.Machine

/-- A report or notice at the transfer that had reserved the breaker when it was made (R51, R59): where that transfer has
ended since, it acts on nothing, the bus's next transfer included (R102). -/
def Control.atTransfer (k : Control) (t : Option TransferMark) (f : Bus → Control → Control) : Control :=
  match t with
  | some t => if stillRuns k t then f t.bus k else k
  | none => k

/-- Whether an attempt slot still holds a port's attempt in EVALUATING on a breaker (R38): another attempt may have taken
the slot since. -/
def portEvaluates (k : Control) (b : Breaker) (p : Port) (n : AttemptNo) : Bool :=
  match k.attempt n with
  | some a => a.state = .evaluating && a.breaker = b && a.requester = .port p
  | none => false

/-- The OPERATOR_OPEN notice at its holder (R38, R59, R102). -/
def Control.operatorOpened (e : Sensed) (k : Control) (b : Breaker) (t : Option TransferMark) : Holder → Control
  | .transfer _ => k.atTransfer t fun l k => k.endTransfer e l .operatorOpen
  | .gen n => k.slotOperatorOpen e n
  | .load => match breakerBlock b with
    | some f => k.feederOperatorOpen e f
    | none => k
  | .port p (some n) => if portEvaluates k b p n then k.endAttempt e n .cancelled none none else k
  | .port p none => k.endClaims e b (.port p) .cancelled

/-- A change of observed state at LDM, GSC and, for an uncommanded change, at the transfer that had reserved the breaker
(R44, R57). -/
def Control.observedTaken (e : Sensed) (k : Control) (b : Breaker) (new : Observed) (op : Option Operation)
    (first : Bool) (t : Option TransferMark) : Control :=
  let k1 := match breakerSlot b with
    | some n => k.slotObserved e n new op first
    | none => k
  let k2 := match breakerBlock b with
    | some f => k1.feederObserved f new op
    | none => k1
  if op.isNone && !first then k2.atTransfer t fun l k => k.transferObserved e l b new else k2

/-- The report of the end of an operation at SYE, the reservation holder, GSC and LDM (R51), and the demands that wait
for such an end (R94, R115). -/
def Control.opEndedTaken (e : Sensed) (k : Control) (r : OpReport) : Control :=
  let k1 := k.syncReport e r
  let k2 := if r.byAttempt then k1 else k1.atTransfer r.transfer fun l k => k.transferOpEnded e l r
  let k3 := match breakerSlot r.breaker with
    | some n => k2.slotOpEnded e n r
    | none => k2
  let k4 := match breakerBlock r.breaker with
    | some f => k3.feederOpEnded e f r
    | none => k3
  k4.repeatReserves e

/-- A reservation released: the demands that wait for one are repeated (R94, R115). -/
def Control.releasedTaken (e : Sensed) (k : Control) (b : Breaker) : Control :=
  let k1 := k.repeatReserves e
  match breakerSlot b with
  | some n => k1.awaitReserve e n
  | none => k1

/-- A change of an out-of-service flag at GSC and LDM (R61). -/
def Control.serviceTaken (e : Sensed) (k : Control) (b : Breaker) : Control :=
  let k1 := match breakerSlot b with
    | some n => k.judgeAvailable e n .service
    | none => k
  match breakerBlock b with
  | some f => k1.feederService f
  | none => k1

/-- The close of a claim's port holder demanded by TIU (R76, R77). An acknowledgement ends neither the claim nor the
reservation. DESIGN CHOICE: assumption 65. -/
def Control.demandPortClaim (e : Sensed) (k : Control) (c : ClaimBus) : Control :=
  match (k.claim c).holder with
  | some h => if portHolderWaits k c then (k.closeDemand e h.breaker h.party).1 else k
  | none => k

/-- The grant of a claim at its party (R76). -/
def Control.grantTaken (e : Sensed) (k : Control) (c : ClaimBus) : Party → Control
  | .transfer l => k.transferGranted e l
  | .gen n => k.slotGranted e n
  | .port _ => k.demandPortClaim e c
  | _ => k

/-- The end of a claim or claim request at its party (R78). -/
def Control.claimEndTaken (e : Sensed) (k : Control) (b : Breaker) (cause : Cause) : Party → Control
  | .transfer l => k.transferClaimEnded e l b cause
  | .gen n => k.slotClaimEnded e n cause
  | _ => k

/-- The end of an attempt at its requester (R35). -/
def Control.attemptEndTaken (e : Sensed) (k : Control) (r : AttemptReport) : Control :=
  match r.requester with
  | .transfer l => k.transferAttemptEnded e l r
  | .gen n => k.slotAttemptEnded e n r
  | .port _ => k

/-- A close issued at the attempt's requester (R33). -/
def Control.issueTaken (e : Sensed) (k : Control) (n : AttemptNo) : Requester → Control
  | .transfer l => k.transferIssued e l n
  | _ => k

/-- A change of utility health at TSQ (R21, R83, R102): a utility that has become LOST ends the transfers that aim at
it. -/
def Control.healthTaken (e : Sensed) (k : Control) (u : Utility) : Control :=
  let judge (k : Control) (l : Bus) : Control :=
    if health k u = .lost && targetUtility l (k.xfer l).target = some u then k.loseTarget e l else k
  (judge (judge k .ba) .bb).triggers e

/-- A change of GB availability at TSQ (R22, R83, R84, R97, R102). -/
def Control.availabilityTaken (e : Sensed) (k : Control) : Control :=
  let judge (k : Control) (l : Bus) : Control :=
    if !k.smn.gbAvailable && (k.xfer l).target = some .gen then k.loseTarget e l else k
  let k1 := judge (judge (k.judgeGbLoss e) .ba) .bb
  k1.tell [.progress .ba, .progress .bb, .triggers]

/-- What the block a notice is for does with it. -/
def Control.handle (e : Sensed) (k : Control) : Notice → Control
  | .frameSmn => k.frameSmn e
  | .framePru => k.framePru e
  | .frameTiu => k.classOccasion e
  | .frameLdm => k.frameLdm e
  | .frameGsc => forEach Slot.all (fun n k => k.frameSlot e n) k
  | .frameTsq => k.frameTsq e
  | .stalenessSmn => k.stalenessSmn e
  | .stalenessTsq => k.stalenessTsq e
  | .stalenessLdm => k.stalenessLdm e
  | .stalenessTiu => k.classOccasion e
  | .stalenessGsc => forEach Slot.all (fun n k => k.judgeBus e n) k
  | .edgeSye c => k.syncEdge e c
  | .periodLdm c => if c = .gb then k.judgeUfStages e else k
  | .channelSmn c => k.channelSmn e c
  | .channelTiu => k.classOccasion e
  | .channelLdm c => if c = .gb then k.judgeUfStages e else k
  | .channelGsc c => k.channelGsc e c
  | .healthChanged u => k.healthTaken e u
  | .availabilityChanged => k.availabilityTaken e
  | .observed b new op first t => k.observedTaken e b new op first t
  | .opEnded r => k.opEndedTaken e r
  | .operatorOpen b h t => k.operatorOpened e b t h
  | .relabelled t cause => k.atTransfer (some t) fun l k => k.tripEnds e l cause
  | .released b => k.releasedTaken e b
  | .serviceChanged b => k.serviceTaken e b
  | .supplyChanged l old => ((k.supplyTsq e l old).tell [.planEvaluation]).supplyLdm e
  | .claimGranted c _ p => k.grantTaken e c p
  | .claimEnded _ b p cause => k.claimEndTaken e b cause p
  | .portClaimDemand c => k.demandPortClaim e c
  | .overlapExpired g => k.overlapTsq e g
  | .portFeederClose b => match breakerBlock b with
    | some f => k.feederPortClose f
    | none => k
  | .evaluation n slip _ _ => k.slotEvaluated n slip
  | .closeIssued n r => k.issueTaken e n r
  | .attemptEnded r => k.attemptEndTaken e r
  | .slotChanged => k.triggers e
  | .capacityChanged => (k.tell [.progress .ba, .progress .bb]).capacityLdm e
  | .planEvaluation => k.evaluatePlan e
  | .blockChanged => k.updateRequired.tell [.seekRestore]
  | .seekRestore => k.seekRestore e
  | .preShedEnded l =>
    if (k.ldm.preShedOpens.get l).isEmpty then (k.modXfer l fun x => { x with preShedDone := true }).tell [.progress l]
    else k
  | .triggers => k.triggers e
  | .progress l => k.advanceTransfer e l
  | .holdEnded => k.holdEnded e

/-- Notices taken up, at most `n` of them, each with all that follows from it before the next.
DESIGN CHOICE: assumption 4. -/
def Control.settle (e : Sensed) : Nat → Control → Control
  | 0, k => k
  | n + 1, k =>
    match k.notices with
    | [] => k
    | m :: rest =>
      let k1 := ({ k with notices := [] } : Control).handle e m
      Control.settle e n { k1 with notices := k1.notices ++ rest }

/-- The number of notices a step takes up at the most. No chain of effects of the manual comes near it.
DESIGN CHOICE: assumption 5. -/
def cascadeLimit : Nat := 10000

/-- The blocks at the start of a step: no trigger has created a transfer yet, and nothing told is left to take up. -/
def Control.begun (k : Control) : Control :=
  { k with tsq := { k.tsq with autoStarted := .ofFn fun _ => false }, notices := [] }

/-- The blocks after an operation and all that follows from it. DEDUCED: assumption 49. -/
def Control.run (e : Sensed) (k : Control) (f : Control → Control) : Control := (f k.begun).settle e cascadeLimit

end Sys2Proof.Machine
end

