-- ==== Sys2Proof/Machine/State.lean ====
section
/-! DEFINITION. The state of the part, the reasons a step can stop, and the state after device reset. -/

namespace Sys2Proof.Machine

/-- The reasons a step stops with a fault. The part has no fault of its own: every condition it reports goes to a
response, an event or an output. The type has no constructor, so no meaning can answer with one. -/
inductive Fault where
  deriving DecidableEq, Repr

/-- The reasons a step is refused. -/
inductive Refusal where
  /-- Raised by `exec` for a command that has no meaning yet. Safe: nothing is claimed about it. No arm raises it. -/
  | notModelled (mnemonic : String)
  deriving DecidableEq, Repr

/-- The whole state of the part, with the queue of commands that wait, first in first out. `inReset` says whether the
reset input is asserted. `releases` is the model's own: how many releases of reset have been taken, the index of the free
value a release reads. -/
structure State where
  sensed : Sensed
  control : Control
  inReset : Bool
  releases : Nat
  pending : List Instr
  deriving DecidableEq, Repr

/-- The inputs at `State.reset`: no contact made, no READY, both keys released, no window open.
DESIGN CHOICE: assumption 8. -/
def State.resetInputs : InputLevels where
  closedMade := .ofFn fun _ => false
  openMade := .ofFn fun _ => false
  ready := .ofFn fun _ => false
  keys := .ofFn fun _ => false
  windowOpen := .ofFn fun _ => false

/-- The part at the release of device reset, with a valid stored image that holds the defaults of Tables 10-1 and 10-2,
and no command waiting. DESIGN CHOICE: assumption 7. -/
def State.reset : State where
  sensed := resetSensed
  control := resetControl defaultStore true State.resetInputs
  inReset := false
  releases := 0
  pending := []

end Sys2Proof.Machine
end

