-- ==== Sys2Proof/Machine/Operands.lean ====
section
/-! DEFINITION. The operands of port requests (spec/11, R183 and Table 11-1), the access classes (spec/09, R163), and
how a request is judged and answered (R161, R162, R168). -/

namespace Sys2Proof.Machine

/-! ## Payload values -/

/-- The breaker a payload byte names. -/
def breakerOf (x : Byte) : Option Breaker := Breaker.ofIndex x.toNat

/-- The load bus a payload byte names. -/
def busOf (x : Byte) : Option Bus := Bus.ofIndex x.toNat

/-- The slot a payload byte names, 1 to 6. -/
def slotOf (x : Byte) : Option Slot := if x = 0 then none else Slot.ofIndex (x.toNat - 1)

/-- The setting group a payload byte names. -/
def groupOf (x : Byte) : Option GroupNo := GroupNo.ofIndex x.toNat

/-- The curve table a payload byte names. -/
def curveOf (x : Byte) : Option CurveNo := CurveNo.ofIndex x.toNat

/-- A yes or no. -/
def flagOf (x : Byte) : Option Bool := if x = 0 then some false else if x = 1 then some true else none

/-- A transfer target. -/
def targetOf (x : Byte) : Option Target :=
  if x = 0 then some .utility else if x = 1 then some .tie else if x = 2 then some .gen else none

/-- A requested mode: OPEN, CLOSED, or AUTO as `none`. -/
def modeOf (x : Byte) : Option (Option Mode) :=
  if x = 0 then some (some .openTransition)
  else if x = 1 then some (some .closedTransition)
  else if x = 2 then some none
  else none

/-- The blocks a feeder mask names, in ascending feeder order. -/
def maskBlocks (x : Byte) : List Block := Block.all.filter fun f => x.getLsbD f.index

/-- A set of feeders as a mask byte. DEDUCED: assumption 45. -/
def blocksMask (fs : List Block) : Byte :=
  BitVec.ofNat 8 (Block.all.map fun f => if fs.contains f then 2 ^ f.index else 0).sum

/-! ## Access -/

/-- The access classes (R163). -/
inductive RequestClass where
  | read | role | panel | operate | setting
  deriving DecidableEq, Repr

/-- Whether a port is in role ACTIVE. -/
def isActive (k : Control) (p : Port) : Bool := p ≠ .cpP && (k.port p).role = .active

/-- The refusal of a request of a class from a port, if it is refused (R163). DEDUCED: assumption 19. -/
def admissionRefusal (k : Control) (p : Port) (c : RequestClass) : Option Reason :=
  let localKey := k.cpi.keys.localKey.level
  match c with
  | .read => none
  | .role => if p = .cpP then some .accessClass else none
  | .panel => if p = .cpP then none else some .accessClass
  | .operate =>
    if p = .cpP then if localKey then none else some .authority
    else if !isActive k p then some .authority
    else if localKey then some .localControl
    else none
  | .setting =>
    if p = .cpP then if k.cpi.keys.settingsKey.level then none else some .accessClass
    else if !isActive k p then some .authority
    else if !k.common.remoteSettings then some .accessClass
    else if localKey then some .localControl
    else none

/-! ## Answers -/

/-- An answer without payload. -/
def plain (st : Status) : Response where
  status := st
  payload := .bytes []

/-- An answer DONE with payload bytes. -/
def doneWith (l : List Byte) : Response where
  status := .done
  payload := .bytes l

/-- A refusal. -/
def refusal (r : Reason) : Response := plain (.refused r)

/-- The answer of a port's close or open demand (section 4.2, R46, R47). One made a claim request is told its position in
the waiting list, in one payload byte, which is 0 for the holder (R75). DESIGN CHOICE: assumption 89. -/
def demandAnswer : Answer → Response
  | .refused r => refusal r
  | .acknowledged => plain .done
  | .started | .attempt _ => plain .accepted
  | .claim n => { status := .accepted, payload := .bytes [BitVec.ofNat 8 n] }

/-- The answer in the port's window, and the window's assembly done with (R161). A request comes from a window that has
opened since the release of reset. -/
def Control.respond (k : Control) (p : Port) (r : Response) : Control :=
  k.modPort p fun c => { c with response := some r, assembly := [], discarding := false }

/-- The lapse timer of an ACTIVE port reloaded by a well-formed request (R168). -/
def Control.reloadLapse (e : Sensed) (k : Control) (p : Port) : Control :=
  if isActive k p then k.modPort p fun c => { c with lapse := .start e.now k.common.lapseTime } else k

/-- A well-formed request judged for access and passed to its owner (R162, orders 3 and 5). -/
def Control.judgeRequest (e : Sensed) (p : Port) (c : RequestClass) (owner : Control → Control × Response)
    (k : Control) : Control :=
  let k1 := k.reloadLapse e p
  match admissionRefusal k1 p c with
  | some r => k1.respond p (refusal r)
  | none =>
    let (k2, resp) := owner k1
    k2.respond p resp

/-- The state after an operation of the blocks and all that follows from it. While reset is asserted nothing acts. -/
def State.act (s : State) (f : Control → Control) : Host.Outcome State Fault Refusal :=
  if s.inReset then .next s else .next { s with control := s.control.run s.sensed f }

/-- The state after a change of the measured side and all that follows from it. -/
def State.actSensed (s : State) (e : Sensed) (f : Control → Control) : Host.Outcome State Fault Refusal :=
  if s.inReset then .next s else .next { s with sensed := e, control := s.control.run e f }

/-- The state after a port's well-formed request. While reset is asserted the ports take none (R173). -/
def State.request (s : State) (p : Port) (c : RequestClass) (owner : Control → Control × Response) :
    Host.Outcome State Fault Refusal :=
  s.act (Control.judgeRequest s.sensed p c owner)

end Sys2Proof.Machine
end

