-- ==== Sys2Proof/Machine/Measurement.lean ====
section
/-! DEFINITION. The commands of MLR, PCU and SMN (spec/01): frames, the frame watchdog, zero crossings, and the timers
of the health records. -/

namespace Sys2Proof.Machine

/-! ## Frames -/

/-- A byte of a frame, counted from 0. -/
def byteAt (l : List Byte) (i : Nat) : Nat := (l.getD i 0).toNat

/-- An unsigned two-byte field of a frame. -/
def wordAt (l : List Byte) (i : Nat) : Nat := byteAt l i * 256 + byteAt l (i + 1)

/-- A signed two-byte field of a frame. -/
def signedAt (l : List Byte) (i : Nat) : Int := (BitVec.ofNat 16 (wordAt l i)).toInt

/-- The image a frame carries (R182). -/
def frameImage (l : List Byte) : Image where
  volt := .ofFn fun c => wordAt l (1 + 2 * c.index)
  curr := .ofFn fun b => wordAt l (23 + 2 * b.index)
  power := .ofFn fun n => signedAt l (61 + 2 * n.index)

/-- The sequence number a frame carries. -/
def frameSeq (l : List Byte) : Byte := l.getD 0 0

/-- The sum of some bytes modulo 256. -/
def checksum (l : List Byte) : Nat := (l.map BitVec.toNat).sum % 256

/-- Whether a closed frame is accepted (R1, R2). -/
def frameAccepted (m : Mlr) (l : List Byte) (extraBits : Nat) : Bool :=
  l.length = 74 && extraBits = 0 && checksum l = 0 && m.lastSeq ≠ some (frameSeq l)

/-- MLR after an accepted frame (R3 to R5). -/
def Mlr.accept (m : Mlr) (now : Word32) (l : List Byte) : Mlr :=
  let run := if m.fresh then m.runCount else min 2 (m.runCount + 1)
  let fresh := m.fresh || run = 2
  { image := frameImage l
    fresh := fresh
    runCount := run
    lastSeq := some (frameSeq l)
    watchdog := .start now 12
    firstFresh := m.firstFresh || fresh }

/-- The notices of a change of staleness (R5). -/
def stalenessNotices : List Notice := [.stalenessSmn, .stalenessTsq, .stalenessLdm, .stalenessTiu, .stalenessGsc]

/-- The deliveries of an accepted frame (R3). -/
def frameNotices : List Notice := [.frameSmn, .framePru, .frameTiu, .frameLdm, .frameGsc, .frameTsq]

/-- The blocks at an accepted frame: `fresh` and `first` say whether it made the image FRESH, and for the first time
since device reset (R3, R5, R181). -/
def Control.frameDelivered (e : Sensed) (fresh first : Bool) (k : Control) : Control :=
  let k1 := if fresh then (k.recordKind e .measurementFresh).tell stalenessNotices else k
  let k2 : Control := if first then { k1 with tsq := { k1.tsq with startUpDelay := .start e.now 2000 } } else k1
  k2.tell frameNotices

/-- MEASUREMENT_FRAME (R2). -/
def execMeasurementFrame (bytes : List Byte) (extraBits : Nat) (s : State) : Host.Outcome State Fault Refusal :=
  let m := s.sensed.mlr
  if frameAccepted m bytes extraBits then
    let m' := m.accept s.sensed.now bytes
    let e : Sensed := { s.sensed with mlr := m' }
    s.actSensed e (Control.frameDelivered e (m'.fresh && !m.fresh) (m'.firstFresh && !m.firstFresh))
  else .next s

/-- MLR after the expiry of the frame watchdog (R4, R5). -/
def Mlr.expire (m : Mlr) : Mlr := { m with watchdog := .off, fresh := false, runCount := 0 }

/-- FRAME_WATCHDOG_EXPIRY (R4). -/
def execFrameWatchdogExpiry (s : State) : Host.Outcome State Fault Refusal :=
  let m := s.sensed.mlr
  if m.watchdog.due s.sensed.now then
    let e : Sensed := { s.sensed with mlr := m.expire }
    s.actSensed e fun k => if m.fresh then (k.recordKind e .measurementStale).tell stalenessNotices else k
  else .next s

/-! ## Zero crossings -/

/-- One channel record replaced. -/
def Sensed.setChannel (e : Sensed) (c : Channel) (r : ChannelRec) : Sensed := { e with pcu := e.pcu.set c r }

/-- ZERO_CROSSING_RISE (R8): the timebase is captured and a qualification with the Q in force begins. -/
def execZeroCrossingRise (c : Channel) (s : State) : Host.Outcome State Fault Refusal :=
  let e := s.sensed
  let q : Qualification := { capture := e.clock.timebase, length := s.control.common.qualTime * 10 }
  s.actSensed (e.setChannel c { e.pcu.get c with qual := some q }) id

/-- The time a qualification has run, in ticks. -/
def Qualification.elapsed (q : Qualification) (timebase : Word32) : Nat := (timebase - q.capture).toNat

/-- PULSE_DISCARDED (R8): a fall before Q has elapsed ends the qualification and changes nothing else. -/
def execPulseDiscarded (c : Channel) (s : State) : Host.Outcome State Fault Refusal :=
  let e := s.sensed
  match (e.pcu.get c).qual with
  | some q =>
    if q.elapsed e.clock.timebase < q.length then s.actSensed (e.setChannel c { e.pcu.get c with qual := none }) id
    else .next s
  | none => .next s

/-- How a qualified edge is judged (R9). -/
inductive EdgeKind where
  | first | early | period (ticks : Nat) | outOfWindow
  deriving DecidableEq, Repr

/-- The judgement of a capture against the channel record (R9). -/
def judgeEdge (r : ChannelRec) (capture : Word32) : EdgeKind :=
  let delta := (capture - r.cLast).toNat
  if r.state = .noSignal then .first
  else if delta < 142858 then .early
  else if delta ≤ 250000 then .period delta
  else .outOfWindow

/-- The frequency of a period (R12). -/
def frequency (ticks : Nat) : Nat := 10000000000 / ticks

/-- The channel record with a capture committed. -/
def ChannelRec.commit (r : ChannelRec) (capture : Word32) : ChannelRec := { r with cPrev := r.cLast, cLast := capture }

/-- The channel record after a qualified edge (R9 to R12). -/
def ChannelRec.edge (r : ChannelRec) (capture timebase : Word32) : ChannelRec :=
  let r0 := { r with qual := none, lastEdge := some (timebase + 500000) }
  match judgeEdge r capture with
  | .first => { r0.commit capture with state := .acquiring, good := 0 }
  | .early => { r0 with early := true }
  | .period t =>
    let good := min 3 (r.good + 1)
    { r0.commit capture with
      period := t
      freq := frequency t
      cycles := r.cycles + 1
      good := good
      early := false
      state := if good = 3 then .tracking else r.state }
  | .outOfWindow => { r0.commit capture with good := 0, state := .acquiring }

/-- The notices of a change of a channel's state (R13). -/
def channelNotices (c : Channel) : List Notice := [.channelSmn c, .channelTiu, .channelLdm c, .channelGsc c]

/-- PCU's event at a change of a channel's state (R13). The subject of CHANNEL_LOST is the channel, as that of
CHANNEL_TRACKING is. DEDUCED: assumption 78. -/
def Control.channelEvent (e : Sensed) (c : Channel) (old : ChannelState) (k : Control) : Control :=
  let r := e.pcu.get c
  match r.state with
  | .tracking => if old = .tracking then k else k.recordNoCause e .channelTracking (.channel c) (r.freq / 10 : Nat)
  | .acquiring => if old = .tracking then k.record e .channelLost (.channel c) .outOfWindow 0 else k
  | .noSignal => k.record e .channelLost (.channel c) .noSignal 0

/-- The blocks at a qualified edge (R13). -/
def Control.edgeDelivered (e : Sensed) (c : Channel) (old : ChannelState) (kind : EdgeKind) (k : Control) : Control :=
  let k1 := k.channelEvent e c old
  let k2 := if kind = .early then k1 else k1.tell [.edgeSye c]
  let k3 := match kind with
    | .period _ => k2.tell [.periodLdm c]
    | _ => k2
  if (e.pcu.get c).state = old then k3 else k3.tell (channelNotices c)

/-- QUALIFIED_EDGE (R9): the end of Q with the input still high. -/
def execQualifiedEdge (c : Channel) (s : State) : Host.Outcome State Fault Refusal :=
  let r := s.sensed.pcu.get c
  match r.qual with
  | some q =>
    if q.elapsed s.sensed.clock.timebase < q.length then .next s
    else
      let e := s.sensed.setChannel c (r.edge q.capture s.sensed.clock.timebase)
      s.actSensed e (Control.edgeDelivered e c r.state (judgeEdge r q.capture))
  | none => .next s

/-- Whether a channel's last-edge timer has run out (R11). -/
def lastEdgeDue (r : ChannelRec) (timebase : Word32) : Bool :=
  match r.lastEdge with
  | some d => reached d timebase
  | none => false

/-- LAST_EDGE_TIMER_EXPIRY (R11). -/
def execLastEdgeTimerExpiry (c : Channel) (s : State) : Host.Outcome State Fault Refusal :=
  let r := s.sensed.pcu.get c
  if lastEdgeDue r s.sensed.clock.timebase then
    let e := s.sensed.setChannel c { r with state := .noSignal, good := 0, lastEdge := none }
    s.actSensed e fun k => (k.channelEvent e c r.state).tell (channelNotices c)
  else .next s

/-! ## Health timers -/

/-- LOSS_DELAY_EXPIRY (R19): the move of the table, without a band test. DESIGN CHOICE: assumption 63. -/
def execLossDelayExpiry (u : Utility) (s : State) : Host.Outcome State Fault Refusal :=
  s.act fun k =>
    let h := k.smn.health.get u
    if h.state = .pendingLoss && h.timer.due s.sensed.now then k.setHealth s.sensed u .lost .off .delayExpired else k

/-- RETURN_STABLE_EXPIRY (R19): the move of the table, without a band test. DESIGN CHOICE: assumption 63. -/
def execReturnStableExpiry (u : Utility) (s : State) : Host.Outcome State Fault Refusal :=
  s.act fun k =>
    let h := k.smn.health.get u
    if h.state = .returning && h.timer.due s.sensed.now then k.setHealth s.sensed u .healthy .off .stableExpired
    else k

end Sys2Proof.Machine
end

