-- ==== Sys2Proof/Machine/Frames.lean ====
section
/-! DEFINITION. The port frames (spec/09, R161 and R162; spec/11, R183 and Table 11-1): the command the bytes of a window
make up, the frame of a request, and the bytes of a response and of a window's data-out line. -/

namespace Sys2Proof.Machine

/-! ## Requests -/

/-- Two bytes as one field, most significant first. -/
def join16 (a b : Byte) : Word16 := a ++ b

/-- Four bytes as one field, most significant first. -/
def join32 (a b c d : Byte) : Word32 := (a ++ b) ++ (c ++ d)

/-- The bytes of a two-byte field, most significant first. -/
def split16 (w : Word16) : List Byte := [w.extractLsb' 8 8, w.extractLsb' 0 8]

/-- The bytes of a four-byte field, most significant first. -/
def split32 (w : Word32) : List Byte :=
  [w.extractLsb' 24 8, w.extractLsb' 16 8, w.extractLsb' 8 8, w.extractLsb' 0 8]

/-- The action of a GEN_COMMAND (R183). An unknown action names no slot either, so that GSC refuses it RANGE.
DEDUCED: assumption 15. -/
def genCommand (p : Port) (slot action : Byte) : Instr :=
  if action = 0 then .start p slot
  else if action = 1 then .stop p slot
  else if action = 2 then .resetSlot p slot
  else .start p 0

/-- A request whose payload is empty. -/
def noOperand (i : Instr) (payload : List Byte) : Option Instr := if payload = [] then some i else none

/-- A request whose payload is one byte. -/
def oneByte (f : Byte → Instr) : List Byte → Option Instr
  | [a] => some (f a)
  | _ => none

/-- A request whose payload is two bytes. -/
def twoBytes (f : Byte → Byte → Instr) : List Byte → Option Instr
  | [a, b] => some (f a b)
  | _ => none

/-- A request whose payload is three bytes. -/
def threeBytes (f : Byte → Byte → Byte → Instr) : List Byte → Option Instr
  | [a, b, c] => some (f a b c)
  | _ => none

/-- A request whose payload is six bytes: two, and a field of four. -/
def sixBytes (f : Byte → Byte → Word32 → Instr) : List Byte → Option Instr
  | [a, b, c, d, e, g] => some (f a b (join32 c d e g))
  | _ => none

/-- The request a code and a payload make up, if the code is known and the length is the one it requires (Table 11-1). -/
def parseRequest (p : Port) (code : Nat) (payload : List Byte) : Option Instr :=
  match code with
  | 1 => threeBytes (.readRecord p) payload
  | 2 => noOperand (.status p) payload
  | 3 => oneByte (.eventRead p) payload
  | 16 => noOperand (.takeover p) payload
  | 17 => noOperand (.release p) payload
  | 18 => noOperand (.liveness p) payload
  | 32 => noOperand (.hold p) payload
  | 33 => noOperand (.releaseHold p) payload
  | 34 => oneByte (.step p) payload
  | 35 => twoBytes (.service p) payload
  | 48 => oneByte (.operateClose p) payload
  | 49 => oneByte (.operateOpen p) payload
  | 50 => oneByte (.resetBreaker p) payload
  | 51 => oneByte (.resetLockout p) payload
  | 52 => threeBytes (.transfer p) payload
  | 53 => oneByte (.cancelTransfer p) payload
  | 54 => twoBytes (genCommand p) payload
  | 55 => threeBytes (fun n d1 d0 => .biasSet p n (join16 d1 d0)) payload
  | 56 => oneByte (.shed p) payload
  | 57 => oneByte (.restore p) payload
  | 58 => oneByte (.block p) payload
  | 59 => oneByte (.unblock p) payload
  | 60 => oneByte (.groupSelect p) payload
  | 61 => noOperand (.sequenceReset p) payload
  | 62 => noOperand (.ackAttention p) payload
  | 64 => oneByte (.window p) payload
  | 65 => twoBytes (.settingRead p) payload
  | 66 => sixBytes (.settingWrite p) payload
  | 67 => oneByte (.curveBegin p) payload
  | 68 => sixBytes (fun t1 t0 => .curveEntry p (join16 t1 t0)) payload
  | _ => none

/-- The position of a request's checksum byte, counted from 1, if its length byte has been received (R161). -/
def requestEnd : List Byte → Option Nat
  | _ :: n :: _ => some (n.toNat + 3)
  | _ => none

/-- The command a whole request frame makes up (R162, orders 1 and 2). -/
def judgeFrame (p : Port) (frame : List Byte) : Instr :=
  if checksum frame ≠ 0 then .badCheck p
  else match frame with
    | code :: _ :: rest => (parseRequest p code.toNat rest.dropLast).getD (.badRequest p)
    | _ => .badRequest p

/-- The command the bytes clocked in during one window make up (R161). Bytes after the request's checksum are ignored.
DEDUCED: assumption 14. -/
def windowCommand (p : Port) (bytes : List Byte) : Instr :=
  match requestEnd bytes with
  | none => .windowEnded p bytes
  | some n => if bytes.length < n then .windowEnded p bytes else judgeFrame p (bytes.take n)

/-- The command a window of a port makes up in a state of the port: one that was open at the release of reset is discarded
to its end, whatever its bytes (R173). DESIGN CHOICE: assumption 64. -/
def PortRec.command (r : PortRec) (p : Port) (bytes : List Byte) : Instr :=
  if r.discarding then .windowEnded p [] else windowCommand p bytes

/-- The code and payload of a request (Table 11-1), for the commands that are requests. -/
def requestPayload : Instr → Option (Port × Nat × List Byte)
  | .readRecord p t i n => some (p, 1, [t, i, n])
  | .status p => some (p, 2, [])
  | .eventRead p n => some (p, 3, [n])
  | .takeover p => some (p, 16, [])
  | .release p => some (p, 17, [])
  | .liveness p => some (p, 18, [])
  | .hold p => some (p, 32, [])
  | .releaseHold p => some (p, 33, [])
  | .step p l => some (p, 34, [l])
  | .service p b f => some (p, 35, [b, f])
  | .operateClose p b => some (p, 48, [b])
  | .operateOpen p b => some (p, 49, [b])
  | .resetBreaker p b => some (p, 50, [b])
  | .resetLockout p b => some (p, 51, [b])
  | .transfer p l t m => some (p, 52, [l, t, m])
  | .cancelTransfer p l => some (p, 53, [l])
  | .start p n => some (p, 54, [n, 0])
  | .stop p n => some (p, 54, [n, 1])
  | .resetSlot p n => some (p, 54, [n, 2])
  | .biasSet p n d => some (p, 55, n :: split16 d)
  | .shed p m => some (p, 56, [m])
  | .restore p m => some (p, 57, [m])
  | .block p m => some (p, 58, [m])
  | .unblock p m => some (p, 59, [m])
  | .groupSelect p g => some (p, 60, [g])
  | .sequenceReset p => some (p, 61, [])
  | .ackAttention p => some (p, 62, [])
  | .window p g => some (p, 64, [g])
  | .settingRead p c i => some (p, 65, [c, i])
  | .settingWrite p c i v => some (p, 66, c :: i :: split32 v)
  | .curveBegin p c => some (p, 67, [c])
  | .curveEntry p t r => some (p, 68, split16 t ++ split32 r)
  | _ => none

/-- A frame with its checksum byte, which brings the sum of its bytes to 0 modulo 256. -/
def withChecksum (l : List Byte) : List Byte := l ++ [BitVec.ofNat 8 (256 - checksum l)]

/-- A request frame. -/
def requestFrame (code : Nat) (payload : List Byte) : List Byte :=
  withChecksum (BitVec.ofNat 8 code :: BitVec.ofNat 8 payload.length :: payload)

/-! ## Responses -/

/-- The bytes of a payload. -/
def Payload.toBytes : Payload → List Byte
  | .bytes l => l
  | .image l => Config.imageBytes l
  | .status i => Config.statusBytes i
  | .liveness a b t => Config.livenessBytes a b t

/-- A response frame (section 9.1; R183). -/
def responseFrame (r : Response) : List Byte :=
  let l := r.payload.toBytes
  withChecksum (BitVec.ofNat 8 r.status.code :: BitVec.ofNat 8 r.status.reasonCode :: BitVec.ofNat 8 l.length :: l)

/-- The filler byte (R183). -/
def filler : Byte := 255

/-- The turnaround byte (R183). -/
def turnaround : Byte := 90

/-- The first bytes of a window's data-out line, `total` of them, in a window whose request has `request` bytes and is
answered with `r` (R161, R183). While reset is asserted, and in a window without a whole request, every byte is filler.
DESIGN CHOICE: assumption 39. -/
def windowOutput (inReset : Bool) (request : Nat) (r : Option Response) (total : Nat) : List Byte :=
  let line := match inReset, r with
    | false, some r => List.replicate request filler ++ turnaround :: responseFrame r
    | _, _ => []
  (line ++ List.replicate total filler).take total

end Sys2Proof.Machine
end

