-- ==== Sys2Proof/Machine/Generators.lean ====
section
/-! DEFINITION. The commands of GSC (spec/06): READY, the slot timers, the bias outputs, GEN_COMMAND and BIAS_SET. -/

namespace Sys2Proof.Machine

/-! ## READY and the slot timers -/

/-- The READY input of a slot as last seen. -/
def Control.setReady (n : Slot) (level : Bool) (k : Control) : Control := k.modSlot n fun r => { r with ready := level }

/-- A change of READY at GSC (R114, R115, R117, R119, R121). -/
def Control.readyChanged (e : Sensed) (n : Slot) (level : Bool) (k : Control) : Control :=
  let k1 := k.setReady n level
  if level then k1.judgeStarting e n else k1.readyLost e n

/-- READY_CHANGE (R114). The input keeps its level while reset is asserted. -/
def execReadyChange (n : Slot) (level : Bool) (s : State) : Host.Outcome State Fault Refusal :=
  if (s.control.slot n).ready = level then .next s
  else if s.inReset then .next { s with control := s.control.setReady n level }
  else s.act (Control.readyChanged s.sensed n level)

/-- Whether a slot's timer has run out in a state. -/
def slotDue (e : Sensed) (k : Control) (n : Slot) (state : SlotState) : Bool :=
  (k.slot n).state = state && (k.slot n).timer.due e.now

/-- START_TIMER_EXPIRY (R114). -/
def execStartTimerExpiry (n : Slot) (s : State) : Host.Outcome State Fault Refusal :=
  s.act fun k => if slotDue s.sensed k n .starting then k.failSlot s.sensed n .startTimeout else k

/-- SYNC_WAIT_EXPIRY (R118): the timer runs only while there is no attempt. -/
def execSyncWaitExpiry (n : Slot) (s : State) : Host.Outcome State Fault Refusal :=
  s.act fun k => if slotDue s.sensed k n .synchronizing then k.failSlot s.sensed n .syncTimeout else k

/-- The bias duty one ramp step lower, not below Dmin, and the ramp step timer restarted (R121). -/
def Control.rampStep (e : Sensed) (n : Slot) (k : Control) : Control :=
  k.modSlot n fun r =>
    { r with duty := max k.common.dmin (r.duty - k.common.unloadStep), ramp := .start e.now 100 }

/-- RAMP_STEP_EXPIRY (R121). -/
def execRampStepExpiry (n : Slot) (s : State) : Host.Outcome State Fault Refusal :=
  s.act fun k =>
    if (k.slot n).state = .unloading && (k.slot n).ramp.due s.sensed.now then k.rampStep s.sensed n else k

/-- The OPEN of Gn demanded at the unload limit (R121). -/
def Control.unloadLimit (e : Sensed) (n : Slot) (k : Control) : Control :=
  (k.modSlot n fun r => { r with unloadTimedOut := true }).demandSlotOpen e n

/-- UNLOAD_LIMIT_EXPIRY (R121): the timer runs only while no open has been demanded. -/
def execUnloadLimitExpiry (n : Slot) (s : State) : Host.Outcome State Fault Refusal :=
  s.act fun k => if slotDue s.sensed k n .unloading then k.unloadLimit s.sensed n else k

/-- COOLDOWN_EXPIRY (R122). -/
def execCooldownExpiry (n : Slot) (s : State) : Host.Outcome State Fault Refusal :=
  s.act fun k =>
    if slotDue s.sensed k n .cooldown then k.setSlotState s.sensed n (restState k n) .cooldownExpired else k

/-! ## The bias outputs -/

/-- The length of a duty's high time in a period, in ticks (R125). -/
def highTime (period duty : Nat) : Nat := period * duty / 1000

/-- The end of the bias period under way, as a value of the timebase. -/
def Bias.periodEnd (b : Bias) : Word32 := b.start + BitVec.ofNat 32 b.period

/-- The bias outputs at the start of a period: the period in force and the duties then held (R125). -/
def Gsc.newPeriod (g : Gsc) (periodUs : Nat) : Gsc :=
  { g with bias :=
    { start := g.bias.periodEnd
      period := periodUs * 10
      duties := .ofFn fun n => (g.slots.get n).duty
      high := .ofFn fun n => 0 < (g.slots.get n).duty } }

/-- BIAS_PERIOD_START (R125). -/
def execBiasPeriodStart (s : State) : Host.Outcome State Fault Refusal :=
  s.act fun k =>
    if reached k.gsc.bias.periodEnd s.sensed.clock.timebase then { k with gsc := k.gsc.newPeriod k.common.biasPeriod }
    else k

/-- Whether the high time of an output in the period under way is over (R125). -/
def Bias.highOver (b : Bias) (n : Slot) (timebase : Word32) : Bool :=
  b.duties.get n < 1000 && highTime b.period (b.duties.get n) ≤ (timebase - b.start).toNat

/-- BIAS_HIGH_TIME_END (R125). -/
def execBiasHighTimeEnd (n : Slot) (s : State) : Host.Outcome State Fault Refusal :=
  s.act fun k =>
    if k.gsc.bias.highOver n s.sensed.clock.timebase then
      { k with gsc := { k.gsc with bias := { k.gsc.bias with high := k.gsc.bias.high.set n false } } }
    else k

/-! ## Requests that name a slot -/

/-- A request that names a slot: a number outside 1 to 6 is refused RANGE (R113). -/
def withSlot (x : Byte) (owner : Slot → Control → Control × Response) (k : Control) : Control × Response :=
  match slotOf x with
  | some n => owner n k
  | none => (k, refusal .range)

/-- The demand source of a slot given by START (R113). -/
def Control.portDemand (n : Slot) (k : Control) : Control :=
  k.modSlot n fun r => { r with demand := .port, barred := false }

/-- START at GSC (R113). -/
def Control.startSlot (e : Sensed) (n : Slot) (k : Control) : Control × Response :=
  match (k.slot n).state with
  | .standby => ((k.portDemand n).setSlotState e n .starting .port, plain .done)
  | .starting | .awaitingBus | .synchronizing | .closing | .online =>
    (if (k.slot n).demand = .plan then k.portDemand n else k, plain .done)
  | .unavailable =>
    (k, refusal (if k.outOfService (slotBreaker n) then .outOfService else .inconsistent))
  | .unloading | .cooldown | .failed => (k, refusal .busy)

/-- START (R113). -/
def execStart (p : Port) (slot : Byte) (s : State) : Host.Outcome State Fault Refusal :=
  s.request p .operate (withSlot slot (Control.startSlot s.sensed))

/-- A slot barred from the plan by a STOP that is taken (R113). -/
def Control.barSlot (n : Slot) (k : Control) : Control := k.modSlot n fun r => { r with barred := true }

/-- A slot's stop deferred (R117). -/
def Control.deferStop (n : Slot) (k : Control) : Control := k.modSlot n fun r => { r with deferredStop := true }

/-- STOP at GSC (R113). -/
def Control.stopSlot (e : Sensed) (n : Slot) (k : Control) : Control × Response :=
  let k1 := k.barSlot n
  match (k.slot n).state with
  | .online =>
    if lastSource k n then (k, refusal .lastSource) else (k1.setSlotState e n .unloading .stop, plain .done)
  | .starting | .awaitingBus => (k1.restSlot e n .stop, plain .done)
  | .synchronizing =>
    if ownCloseInFlight k n then (k1.deferStop n, plain .accepted) else (k1.restSlot e n .stop, plain .done)
  | .closing => (k1.deferStop n, plain .accepted)
  | .standby | .unloading | .cooldown | .failed | .unavailable => (k1, plain .done)

/-- STOP (R113). -/
def execStop (p : Port) (slot : Byte) (s : State) : Host.Outcome State Fault Refusal :=
  s.request p .operate (withSlot slot (Control.stopSlot s.sensed))

/-- The refusal of a RESET_SLOT, if it is refused (R113): of a breaker both locked out and not observed OPEN, LOCKOUT.
DESIGN CHOICE: assumption 73. -/
def resetSlotRefusal (k : Control) (n : Slot) : Option Reason :=
  if (k.slot n).state ≠ .failed then some .inconsistent
  else if (k.lockout (slotBreaker n)).flag then some .lockout
  else if (k.breaker (slotBreaker n)).observed ≠ .opened then some .inconsistent
  else none

/-- A FAILED slot's fault cleared and the slot at rest (R113). -/
def Control.clearFault (e : Sensed) (n : Slot) (k : Control) : Control :=
  (k.modSlot n fun r => { r with fault := none }).setSlotState e n (restState k n) .resetSlot

/-- RESET_SLOT at GSC (R113). -/
def Control.requestResetSlot (e : Sensed) (n : Slot) (k : Control) : Control × Response :=
  match resetSlotRefusal k n with
  | some r => (k, refusal r)
  | none => (k.clearFault e n, plain .done)

/-- RESET_SLOT (R113). -/
def execResetSlot (p : Port) (slot : Byte) (s : State) : Host.Outcome State Fault Refusal :=
  s.request p .operate (withSlot slot (Control.requestResetSlot s.sensed))

/-- An ONLINE slot's set point written, with the duty that follows from it outside hold (R119, R123). -/
def Control.putSetPoint (d : Nat) (n : Slot) (k : Control) : Control :=
  k.modSlot n fun r => { r with setPoint := d, duty := if k.tsq.hold then r.duty else clampDuty k d }

/-- BIAS_SET at GSC (R119). -/
def Control.biasSet (d : Nat) (n : Slot) (k : Control) : Control × Response :=
  if 1000 < d then (k, refusal .range)
  else if (k.slot n).state ≠ .online then (k, refusal .inconsistent)
  else (k.putSetPoint d n, plain (if k.common.dmin ≤ d && d ≤ k.common.dmax then .done else .clamped))

/-- BIAS_SET (R119). -/
def execBiasSet (p : Port) (slot : Byte) (duty : Word16) (s : State) : Host.Outcome State Fault Refusal :=
  s.request p .operate (withSlot slot (Control.biasSet duty.toNat))

end Sys2Proof.Machine
end

