-- ==== Sys2Proof/Machine/Loads.lean ====
section
/-! DEFINITION. The commands of LDM (spec/07): the overload, underfrequency and restore timers, and SHED, RESTORE, BLOCK
and UNBLOCK. -/

namespace Sys2Proof.Machine

/-! ## Timers -/

/-- The expiry of the overload timer (R133): one shed, and the timer restarted with the delay in force. -/
def Control.overloadExpired (e : Sensed) (k : Control) : Control :=
  (k.shedOne e .overload).setOverload (.start e.now (k.group.overloadDelay * 1000))

/-- OVERLOAD_TIMER_EXPIRY (R133). -/
def execOverloadTimerExpiry (s : State) : Host.Outcome State Fault Refusal :=
  s.act fun k => if k.ldm.overload.due s.sensed.now then k.overloadExpired s.sensed else k

/-- The expiry of an underfrequency timer (R135). -/
def Control.ufExpired (e : Sensed) (st : UfStage) (k : Control) : Control :=
  (k.shedOne e (UfStage.cause st)).setUf st (if belowUf e k st then .start e.now (ufSettings k st).2 else .off)

/-- UNDERFREQUENCY_TIMER_EXPIRY (R135). -/
def execUnderfrequencyTimerExpiry (st : UfStage) (s : State) : Host.Outcome State Fault Refusal :=
  s.act fun k => if (k.ldm.uf.get st).due s.sensed.now then k.ufExpired s.sensed st else k

/-- The restore interval timer replaced. -/
def Control.setRestoreTimer (t : Timer) (k : Control) : Control := { k with ldm := { k.ldm with restoreTimer := t } }

/-- RESTORE_INTERVAL_END (R136, R138). -/
def execRestoreIntervalEnd (s : State) : Host.Outcome State Fault Refusal :=
  s.act fun k =>
    if k.ldm.restoreTimer.due s.sensed.now then (k.setRestoreTimer .off).seekRestore s.sensed else k

/-! ## Requests that name feeders -/

/-- The blocks a mask names that meet a request's condition, in ascending feeder order, which R139 states for SHED.
DESIGN CHOICE for the others: assumption 95. -/
def namedBlocks (k : Control) (mask : Byte) (cond : Control → Block → Bool) : List Block :=
  (maskBlocks mask).filter (cond k)

/-- The answer that gives the set of feeders acted on (R139, R140). -/
def actedOn (st : Status) (fs : List Block) : Response where
  status := st
  payload := .bytes [blocksMask fs]

/-- SHED at LDM (R139). -/
def Control.shedRequest (e : Sensed) (mask : Byte) (k : Control) : Control × Response :=
  let fs := namedBlocks k mask fun k f => (k.blockRec f).state = .connected
  (forEach fs (fun f k => (k.shed e f .port).1) k, actedOn (if fs.isEmpty then .done else .accepted) fs)

/-- SHED (R139). -/
def execShed (p : Port) (mask : Byte) (s : State) : Host.Outcome State Fault Refusal :=
  s.request p .operate (Control.shedRequest s.sensed mask)

/-- A listed block's restore requested (R139). -/
def Control.wantRestore (f : Block) (k : Control) : Control :=
  k.modBlock f fun r => { r with restoreRequested := true }

/-- Pacing running again (R138). -/
def Control.resumePacing (k : Control) : Control := { k with ldm := { k.ldm with pacingStopped := false } }

/-- RESTORE at LDM (R136, R138, R139). -/
def Control.restoreRequest (e : Sensed) (mask : Byte) (k : Control) : Control × Response :=
  let fs := namedBlocks k mask fun k f => (k.blockRec f).state = .listed
  ((forEach fs Control.wantRestore k.resumePacing).seekRestore e, actedOn .done fs)

/-- RESTORE (R139). -/
def execRestore (p : Port) (mask : Byte) (s : State) : Host.Outcome State Fault Refusal :=
  s.request p .operate (Control.restoreRequest s.sensed mask)

/-- BLOCK at LDM (R140). -/
def Control.blockRequest (mask : Byte) (k : Control) : Control × Response :=
  let fs := namedBlocks k mask fun k f => (k.blockRec f).state = .listed
  (forEach fs (fun f k => k.setBlock f .blocked) k, actedOn .done fs)

/-- BLOCK (R140). -/
def execBlock (p : Port) (mask : Byte) (s : State) : Host.Outcome State Fault Refusal :=
  s.request p .operate (Control.blockRequest mask)

/-- Whether UNBLOCK returns a block to the list (R140), by its feeder's observed state alone, whatever close is in flight.
DESIGN CHOICE: assumption 75. -/
def unblockable (k : Control) (f : Block) : Bool :=
  (k.blockRec f).state = .blocked &&
    ((k.breaker (blockBreaker f)).observed = .opened || (k.breaker (blockBreaker f)).observed = .travel)

/-- UNBLOCK at LDM (R140). -/
def Control.unblockRequest (mask : Byte) (k : Control) : Control × Response :=
  let fs := namedBlocks k mask unblockable
  (forEach fs (fun f k => k.setBlock f .listed) k, actedOn .done fs)

/-- UNBLOCK (R140). -/
def execUnblock (p : Port) (mask : Byte) (s : State) : Host.Outcome State Fault Refusal :=
  s.request p .operate (Control.unblockRequest mask)

end Sys2Proof.Machine
end

