-- ==== Sys2Proof/Machine/Records.lean ====
section
/-! DEFINITION. The records READ_RECORD returns (spec/09, R165; spec/11, R184) and the event record (R185). -/

namespace Sys2Proof.Machine

/-! ## Fields -/

/-- A value of one byte. -/
def u8 (n : Nat) : List Byte := [BitVec.ofNat 8 n]

/-- A value of two bytes, most significant first. -/
def u16 (n : Nat) : List Byte := [BitVec.ofNat 8 (n / 256), BitVec.ofNat 8 n]

/-- A value of four bytes, most significant first. -/
def u32 (n : Nat) : List Byte := u16 (n / 65536) ++ u16 n

/-- A signed value of two bytes, in two's complement. -/
def s16 (i : Int) : List Byte := u16 (i % 65536).toNat

/-- A flag or yes-or-no. -/
def flag (b : Bool) : List Byte := u8 b.toNat

/-- An absent field of some bytes. -/
def absent (width : Nat) : List Byte := List.replicate width 255

/-- An optional field. -/
def optional {α : Type} (width : Nat) (f : α → List Byte) : Option α → List Byte
  | some a => f a
  | none => absent width

/-- The remaining time of a timer. -/
def remaining (e : Sensed) (t : Timer) : List Byte := optional 4 u32 (t.remaining e.now)

/-- A cause held in a field. -/
def causeByte (c : Cause) : List Byte := u8 c.code

/-- A breaker named in a field. -/
def breakerByte (b : Breaker) : List Byte := u8 b.index

/-- A party (R184): the code of its kind, then its bus, slot or port. -/
def Party.bytes : Party → List Byte
  | .port p => u8 Cause.port.code ++ u8 p.index
  | .transfer l => u8 Cause.transfer.code ++ u8 l.index
  | .gen n => u8 Cause.gen.code ++ u8 (n.index + 1)
  | .load => u8 Cause.load.code ++ absent 1
  | .protection => u8 Cause.protection.code ++ absent 1
  | .overlap => u8 Cause.overlap.code ++ absent 1

/-- A reservation holder (R184), with its attempt number. -/
def Holder.bytes : Holder → List Byte
  | .transfer l => (Party.transfer l).bytes ++ absent 1
  | .gen n => (Party.gen n).bytes ++ absent 1
  | .load => Party.load.bytes ++ absent 1
  | .port p a => (Party.port p).bytes ++ optional 1 (fun n => u8 n.index) a

/-- The position of a channel state among the states of R10. -/
def ChannelState.number : ChannelState → Nat
  | .noSignal => 0
  | .acquiring => 1
  | .tracking => 2

/-- The position of an attempt state among those of section 2.1. -/
def AttemptState.number : AttemptState → Nat
  | .evaluating => 0
  | .closeIssued => 1
  | .ended => 2

/-- The position of an observed state among those of section 3.1. -/
def Observed.number : Observed → Nat
  | .opened => 0
  | .closed => 1
  | .travel => 2
  | .invalid => 3

/-- The position of a commanded state among those of section 3.1. -/
def Position.number : Position → Nat
  | .opened => 0
  | .closed => 1

/-- The position of a supply state in the table of R67. -/
def Supply.number : Supply → Nat
  | .utility => 0
  | .tie => 1
  | .gen => 2
  | .parallel => 3
  | .dead => 4

/-- The code of a target (R183). -/
def Target.number : Target → Nat
  | .utility => 0
  | .tie => 1
  | .gen => 2

/-- The code of a mode (R183). -/
def Mode.number : Mode → Nat
  | .openTransition => 0
  | .closedTransition => 1

/-- The number of a role (section 9.4). -/
def Role.number : Role → Nat
  | .standby => 0
  | .active => 1
  | .lapsed => 2

/-- The cause that names a demand source. -/
def Demand.cause : Demand → Cause
  | .none => .none
  | .plan => .plan
  | .port => .port

/-- The position of a block state among those of section 7.1, the shed phases under SHED. -/
def BlockState.number : BlockState → Nat
  | .connected => 0
  | .opening | .listed | .restoring => 1
  | .openOther => 2
  | .blocked => 3

/-- The position of a shed phase. -/
def BlockState.phase : BlockState → Option Nat
  | .opening => some 0
  | .listed => some 1
  | .restoring => some 2
  | _ => none

/-- The kind of a breaker, which has no code in the manual. -/
def breakerKind (b : Breaker) : List Byte :=
  [Config.nameByte "breaker kind" (if b.index < 2 then 0 else if b.index = 2 then 1 else if b.index < 5 then 2
    else if b.index < 11 then 3 else 4)]

/-- A set of source kinds, which has no code in the manual. -/
def SourceSet.bytes (s : SourceSet) : List Byte :=
  [Config.nameByte "source set" (s.u1.toNat + 2 * s.u2.toNat + 4 * s.gen.toNat)]

/-! ## Tables 0 to 12 -/

/-- The number of a staleness state: FRESH 0, STALE 1. DESIGN CHOICE: assumption 79. -/
def stalenessNumber (fresh : Bool) : Nat := if fresh then 0 else 1

/-- Table 0: the image, the staleness state, the run count and the last accepted sequence number (R6), the first-FRESH
indication and the remaining start-up delay (R181). -/
def imageRecord (e : Sensed) (k : Control) : List Byte :=
  e.mlr.image.volt.toList.flatMap u16 ++ e.mlr.image.curr.toList.flatMap u16 ++ e.mlr.image.power.toList.flatMap s16 ++
    u8 (stalenessNumber e.mlr.fresh) ++ u8 e.mlr.runCount ++ optional 1 (fun b => [b]) e.mlr.lastSeq ++ flag e.mlr.firstFresh ++
    remaining e k.tsq.startUpDelay

/-- Table 1: a channel record (R13). The remaining time of a stopped last-edge timer is given as absent, four bytes 255.
DESIGN CHOICE: assumption 90. -/
def channelRecord (e : Sensed) (c : Channel) : List Byte :=
  let r := e.pcu.get c
  u32 r.cLast.toNat ++ u32 r.cPrev.toNat ++ u32 r.period ++ u32 r.freq ++ u8 r.state.number ++ u8 r.good ++
    u16 r.cycles.toNat ++ flag r.early ++
    optional 4 (fun d => u32 (timeLeft d e.clock.timebase / 10000)) r.lastEdge

/-- Table 2: the health records, and GB availability at index 2 (R22, section 1.4). Of the running timer the remaining time
alone is given, as the state tells which it is. DESIGN CHOICE: assumption 71. -/
def healthRecord (e : Sensed) (k : Control) (i : Nat) : List Byte :=
  match Utility.ofIndex i with
  | some u =>
    let h := k.smn.health.get u
    u8 h.state.number ++ remaining e h.timer ++ causeByte h.reason ++ u32 h.lastChange.toNat
  | none => flag k.smn.gbAvailable

/-- The place of an attempt in the creation order, 1 for the oldest (R24). -/
def creationPlace (k : Control) (n : AttemptNo) : Option Nat := (k.sye.order.findIdx? (· = n)).map (· + 1)

/-- Table 3: an attempt record (section 2.1, R24). An empty slot gives its number and every other field absent.
DESIGN CHOICE: assumption 80. -/
def attemptRecord (k : Control) (n : AttemptNo) : List Byte :=
  match k.attempt n with
  | none => u8 n.index ++ absent 32
  | some a =>
    u8 n.index ++ breakerByte a.breaker ++ optional 1 (fun c => u8 c.index) (breakerX a.breaker) ++
      u8 (breakerR a.breaker).index ++ a.requester.party.bytes ++ u32 a.startTime.toNat ++ u16 a.startCycle.toNat ++
      u32 a.deadline.toNat ++ u8 a.count ++ optional 2 (fun c => u16 c.toNat) a.lastCycle ++
      optional 2 s16 a.lastSlip ++ optional 2 s16 a.lastTheta ++ optional 2 s16 a.lastThetaP ++
      optional 2 u16 a.lastDeltaV ++ causeByte a.failing ++ flag a.stepPermission ++ u8 a.state.number ++
      optional 1 causeByte a.result ++ optional 1 (fun r => u8 r.code) a.issueRefusal ++
      optional 1 u8 (creationPlace k n)

/-- An operation in flight. Its kind is given by its number as an event value (R50). DESIGN CHOICE: assumption 67. The time
remaining to its deadline (R42) is its last part, and absent with it. DESIGN CHOICE: assumption 93. -/
def Operation.bytes (e : Sensed) (op : Operation) : List Byte :=
  u8 op.kind.number ++ op.party.bytes ++ causeByte op.cause ++ optional 1 (fun n => u8 n.index) op.attempt ++
    u32 op.start.toNat ++ u32 op.deadline.toNat ++ u32 (timeLeft op.deadline e.now)

/-- Table 4: a breaker record (R42), with its lockout (R143). The operate time limit and the closing time are times, of
four bytes each (R184). -/
def breakerRecord (e : Sensed) (k : Control) (b : Breaker) : List Byte :=
  let r := k.breaker b
  breakerByte b ++ breakerByte b ++ breakerKind b ++ u32 (k.common.operateLimit.get b) ++
    u32 (k.common.closingTime.get b) ++ flag (k.common.deadDead.get b) ++ flag (k.common.positiveSlipOnly.get b) ++
    flag (k.outOfService b) ++ u8 r.observed.number ++ u8 r.commanded.number ++ optional 17 (Operation.bytes e) r.op ++
    flag r.closeBlocked ++ flag r.openFailed ++ optional 3 Holder.bytes r.holder ++ u16 r.opCount ++
    causeByte r.lastCause ++ flag (k.lockout b).flag ++ causeByte (k.lockout b).cause

/-- The lowest channel index in a set of nodes. -/
def lowestNode (g : PerChannel Bool) : Nat :=
  match Channel.all.find? (fun c => g.get c) with
  | some c => c.index
  | none => 255

/-- An overlap timer (R80): a remaining time, 0 once it has expired, and whether it has. DESIGN CHOICE: assumption 70. -/
def OverlapTimer.bytes (e : Sensed) (o : OverlapTimer) : List Byte :=
  u8 (lowestNode o.group) ++ (if o.expired then u32 0 else u32 (timeLeft o.deadline e.now)) ++ flag o.expired ++
    optional 1 breakerByte o.arriving

/-- Table 5: source groups, supply states and overlap timers (R66, R67, R80). The source sets are a list of lowest channel
index and set; before the groups are formed each node's group is absent and that list is empty.
DESIGN CHOICE: assumption 86. -/
def groupRecord (e : Sensed) (k : Control) : List Byte :=
  let t := groupLabels k
  let labels := if k.tiu.formed then (List.range 11).filter fun i => Channel.all.any fun c => t.get c = i else []
  (if k.tiu.formed then t.toList.flatMap u8 else absent 11) ++ u8 labels.length ++
    (labels.flatMap fun i => u8 i ++ (sourceSetOf t i).bytes) ++ u8 k.tiu.supply.ba.number ++
    u8 k.tiu.supply.bb.number ++ u8 k.tiu.overlaps.length ++ k.tiu.overlaps.flatMap (OverlapTimer.bytes e)

/-- The holder of a claim. -/
def ClaimHolder.bytes (h : ClaimHolder) : List Byte :=
  breakerByte h.breaker ++ h.party.bytes ++ u32 h.grant.toNat ++ u32 h.lapse.toNat ++ flag h.started

/-- A waiting claim request. -/
def ClaimRequest.bytes (r : ClaimRequest) : List Byte :=
  breakerByte r.breaker ++ r.party.bytes ++ u32 r.arrival.toNat

/-- Table 6: the claims (R184). -/
def claimRecord (k : Control) (i : Nat) : List Byte :=
  match ClaimBus.ofIndex i with
  | some c => optional 12 ClaimHolder.bytes (k.claim c).holder ++ u8 (k.claim c).waiting.length
  | none => match ClaimBus.ofIndex ((i - 3) / 8) with
    | some c => optional 7 ClaimRequest.bytes ((k.claim c).waiting[(i - 3) % 8]?)
    | none => absent 7

/-- Whether a stage timer is running or frozen: absent with it (R183), else 0 or 1. DESIGN CHOICE: assumption 68. -/
def Timer.runningOrFrozen : Timer → List Byte
  | .off => absent 1
  | .running _ => u8 0
  | .held _ => u8 1

/-- The hold state: IN_HOLD 1, NOT_IN_HOLD 0. DESIGN CHOICE: assumption 69. -/
def holdByte (hold : Bool) : List Byte := u8 hold.toNat

/-- Table 7: a transfer record, with the hold state, the required capacity and the GB loss timer (R82), and GB lost after
it. DESIGN CHOICE: assumption 87. -/
def transferRecord (e : Sensed) (k : Control) (l : Bus) : List Byte :=
  let x := k.xfer l
  u8 l.index ++ flag x.inProgress ++ causeByte x.origin ++ optional 1 (fun t => u8 t.number) x.target ++
    u8 x.mode.number ++ optional 1 (fun s => u8 s.number) x.stage ++ remaining e x.timer ++ x.timer.runningOrFrozen ++
    u8 x.supplyAtStart.number ++ optional 1 breakerByte x.retiring ++ optional 1 breakerByte x.arriving ++
    optional 1 (fun n => u8 n.index) x.attempt ++ flag x.closeStarted ++ u8 (maskValue x.preShedMask) ++
    flag x.stepPending ++ causeByte x.result ++ flag x.recoverArmed ++ holdByte k.tsq.hold ++ u32 k.tsq.required ++
    remaining e k.tsq.gbLossTimer ++ flag k.tsq.gbLost

/-- The kind of a slot's running timer, which has no code in the manual. -/
def slotTimerKind (r : SlotRec) : List Byte :=
  if r.timer.active then [Config.nameByte "slot timer" r.state.number] else absent 1

/-- Table 8: a slot record with GSC's figures (R108). The field table has one running timer; of the two of UNLOADING the
unload limit stands there, and the remaining time of the ramp step follows. DESIGN CHOICE: assumption 54. -/
def slotRecord (e : Sensed) (k : Control) (n : Slot) : List Byte :=
  let r := k.slot n
  u8 (n.index + 1) ++ breakerByte (slotBreaker n) ++ flag (k.common.slotEnabled.get n) ++
    u16 (k.common.rating.get n) ++ u8 (k.common.startOrder.get n) ++ u8 r.state.number ++ causeByte r.demand.cause ++
    flag r.barred ++ flag r.deferredStop ++ flag (startDemand k n) ++ flag r.ready ++
    optional 1 (fun m => u8 m.index) r.attempt ++ u16 r.setPoint ++ u16 r.duty ++ optional 1 causeByte r.fault ++
    slotTimerKind r ++ remaining e r.timer ++ remaining e r.ramp ++ u16 (committedRating k) ++ u16 (capacityOnline k) ++
    u32 k.gsc.required ++ u32 k.common.biasPeriod

/-- Table 9: a load block record with the shed list and LDM's timers (R128). -/
def blockRecord (e : Sensed) (k : Control) (f : Block) : List Byte :=
  let r := k.blockRec f
  u8 f.index ++ breakerByte (blockBreaker f) ++ u8 (blockBus f).index ++ u8 (priority k f) ++
    u16 (k.common.estimate.get f) ++ flag (k.common.autoRestore.get f) ++ u8 r.state.number ++
    optional 1 u8 r.state.phase ++ flag r.restoreRequested ++ causeByte r.lastShed ++ u8 k.ldm.shedList.length ++
    (k.ldm.shedList.flatMap fun f => u8 f.index) ++ remaining e k.ldm.restoreTimer ++ remaining e k.ldm.overload ++
    remaining e k.ldm.uf.stage1 ++ remaining e k.ldm.uf.stage2

/-- A backup watch: present 1, or absent (R183). DESIGN CHOICE: assumption 77. -/
def watchByte (watch : Bool) : List Byte := if watch then u8 1 else absent 1

/-- Table 10: a protection record with the upstream-trip outputs (R143). The reverse-power accumulation is a time, of four
bytes (R184). -/
def protectionRecord (e : Sensed) (k : Control) (b : Breaker) : List Byte :=
  let r := k.prot b
  u32 r.bucket ++ flag r.operated ++ u8 r.instCount ++
    (if (breakerSlot b).isSome then u32 r.reverse else absent 4) ++ flag (k.lockout b).flag ++
    causeByte (k.lockout b).cause ++ remaining e r.failure ++ watchByte r.backupWatch ++ u16 r.m16 ++
    flag (upstreamTrip false k .u1) ++ flag (upstreamTrip false k .u2)

/-- Table 11: a curve entry, or the curve load buffer at index 64 (R184). -/
def curveRecord (k : Control) (i : Nat) : List Byte :=
  match CurveNo.ofIndex (i / 16) with
  | some c => optional 6 (fun x : CurveEntry => u16 x.threshold ++ u32 x.rate) ((k.sst.working.curves.get c)[i % 16]?)
  | none =>
    let b := k.pru.buffer
    optional 1 (fun p => u8 p.index) b.owner ++ u8 b.curve.index ++ u8 b.index

/-- The assembly state of a port's window (R173): that of the requester is its request, and that of another port is not
told by any command. DESIGN CHOICE: assumption 52. -/
def assemblyState (e : Sensed) (p : Port) (c : PortRec) : List Byte :=
  [Config.assemblyByte c.discarding (if c.assembly = [] then Config.bytesUnderWay p e.now else c.assembly)]

/-- Table 12: a port context with the role table and the authority holder (R173), and then the active group, which R174
lets READ_RECORD give without naming its table. DESIGN CHOICE: assumption 62. -/
def portRecord (e : Sensed) (k : Control) (p : Port) : List Byte :=
  let c := k.port p
  u8 p.index ++ (if p = .cpP then absent 1 else u8 c.role.number) ++ remaining e c.lapse ++ u8 c.window.index ++
    assemblyState e p c ++ flag (attention false k p) ++ u8 (k.port .cpA).role.number ++
    u8 (k.port .cpB).role.number ++ optional 1 (fun q => u8 q.index) (authorityHolder k) ++
    u8 k.sst.working.active.index

/-- The number of records of a table (R165). -/
def tableSize : Nat → Option Nat
  | 0 => some 1
  | 1 => some 11
  | 2 => some 3
  | 3 => some 8
  | 4 => some 19
  | 5 => some 1
  | 6 => some 27
  | 7 => some 2
  | 8 => some 6
  | 9 => some 8
  | 10 => some 19
  | 11 => some 65
  | 12 => some 3
  | _ => none

/-- The fields of one record of a table (R165). -/
def recordFields (e : Sensed) (k : Control) (table i : Nat) : List Byte :=
  match table with
  | 0 => imageRecord e k
  | 1 => match Channel.ofIndex i with
    | some c => channelRecord e c
    | none => []
  | 2 => healthRecord e k i
  | 3 => match AttemptNo.ofIndex i with
    | some n => attemptRecord k n
    | none => []
  | 4 => match Breaker.ofIndex i with
    | some b => breakerRecord e k b
    | none => []
  | 5 => groupRecord e k
  | 6 => claimRecord k i
  | 7 => match Bus.ofIndex i with
    | some l => transferRecord e k l
    | none => []
  | 8 => match Slot.ofIndex i with
    | some n => slotRecord e k n
    | none => []
  | 9 => match Block.ofIndex i with
    | some f => blockRecord e k f
    | none => []
  | 10 => match Breaker.ofIndex i with
    | some b => protectionRecord e k b
    | none => []
  | 11 => curveRecord k i
  | _ => match Port.ofIndex i with
    | some p => portRecord e k p
    | none => []

/-- One record: the byte of its own length, then its fields (spec/11). -/
def encodeRecord (fields : List Byte) : List Byte := u8 (fields.length + 1) ++ fields

/-- The records that fit, from a list of records, in the bytes left (R165). -/
def fitting (space : Nat) : List (List Byte) → List (List Byte)
  | [] => []
  | r :: l => if r.length ≤ space then r :: fitting (space - r.length) l else []

/-- The answer of READ_RECORD (R165). The record of table 0 is answered by its fields. DESIGN CHOICE: assumption 12. -/
def readRecords (e : Sensed) (k : Control) (table first count : Nat) : Response :=
  match tableSize table with
  | none => refusal .range
  | some size =>
    if size ≤ first || count = 0 then refusal .range
    else if table = 0 then { status := .done, payload := .image (imageRecord e k) }
    else
      let wanted := (List.range (min count (size - first))).map fun i =>
        encodeRecord (recordFields e k table (first + i))
      let out := fitting 59 wanted
      doneWith (u8 out.length ++ out.flatten)

/-! ## Event records -/

/-- The class and index of an event's subject (Table 11-2). -/
def Subject.bytes : Subject → List Byte
  | .none => [0, 0]
  | .breaker b => 1 :: u8 b.index
  | .channel c => 2 :: u8 c.index
  | .utility u => 3 :: u8 u.index
  | .gb => [3, 2]
  | .slot n => 4 :: u8 (n.index + 1)
  | .bus l => 5 :: u8 l.index
  | .port p => 6 :: u8 p.index

/-- The twelve bytes of an event record (R185). -/
def Event.bytes (v : Event) : List Byte :=
  u16 v.seq.toNat ++ u32 v.time.toNat ++ u8 v.kind.code ++ v.subject.bytes ++ u8 v.cause.code ++ s16 v.value

/-- The records an EVENT_READ returns: from the cursor onward, at most `n` (R172). -/
def eventsFrom (q : Erq) (p : Port) (n : Nat) : List Event :=
  let unreadCount := (q.nextSeq - q.cursors.get p).toNat
  ((q.events.drop (q.events.length - unreadCount))).take n

end Sys2Proof.Machine
end

