-- ==== Sys2Proof/Machine/Ports.lean ====
section
/-! DEFINITION. The commands of CPI and ERQ (spec/09): the keys, windows that give no well-formed request, the read
requests, the supervisor roles and the attention lines. -/

namespace Sys2Proof.Machine

/-! ## Keys -/

/-- A new level at a key input (R164): it is timed for 50 ms unless it is the level already in effect. -/
def KeyRec.take (r : KeyRec) (now : Word32) (level : Bool) : KeyRec :=
  { r with
    input := level
    timing := if level = r.level then .off else .start now 50
    fromReset := false }

/-- KEY_INPUT_CHANGE (R164). The input keeps its level while reset is asserted. -/
def execKeyInputChange (key : Key) (level : Bool) (s : State) : Host.Outcome State Fault Refusal :=
  if (s.control.cpi.keys.get key).input = level then .next s
  else if s.inReset then
    .next { s with control := s.control.modKey key fun r => { r with input := level } }
  else s.act fun k => k.modKey key fun r => r.take s.sensed.now level

/-- The cause of a ROLE_CHANGE by a key. -/
def Key.cause : Key → Cause
  | .localKey => .localKey
  | .settingsKey => .settingsKey

/-- A key level takes effect (R164). -/
def Control.keyEffect (e : Sensed) (key : Key) (k : Control) : Control :=
  let r := k.cpi.keys.get key
  let k1 := k.modKey key fun r => { r with level := r.input, timing := .off, fromReset := false }
  let k2 := if r.fromReset then k1 else k1.record e .roleChange (.port .cpP) (Key.cause key) r.input.toNat
  if key = .localKey && !r.input && k2.tsq.hold then k2.leaveHold e .keyReleased else k2

/-- KEY_CHANGE_EFFECT (R164). -/
def execKeyChangeEffect (key : Key) (s : State) : Host.Outcome State Fault Refusal :=
  s.act fun k => if (k.cpi.keys.get key).timing.due s.sensed.now then k.keyEffect s.sensed key else k

/-! ## Windows without a well-formed request -/

/-- WINDOW_ENDED (R161): the bytes are discarded, without response; it also ends a window that was open at the release of
reset (R173). DEDUCED: assumption 46. -/
def execWindowEnded (p : Port) (_bytes : List Byte) (s : State) : Host.Outcome State Fault Refusal :=
  s.act fun k => k.modPort p fun c => { c with response := none, assembly := [], discarding := false }

/-- BAD_REQUEST (R162, order 2). -/
def execBadRequest (p : Port) (s : State) : Host.Outcome State Fault Refusal :=
  s.act fun k => k.respond p (plain .badRequest)

/-- BAD_CHECK (R162, order 1). -/
def execBadCheck (p : Port) (s : State) : Host.Outcome State Fault Refusal :=
  s.act fun k => k.respond p (plain .badCheck)

/-! ## Reading -/

/-- The blocks while a request is judged at its checksum byte: the requester's window has assembled that frame (R161,
R173). -/
def Control.assembling (k : Control) (p : Port) (frame : List Byte) : Control :=
  k.modPort p fun c => { c with assembly := frame }

/-- READ_RECORD (R165). -/
def execReadRecord (p : Port) (table first count : Byte) (s : State) : Host.Outcome State Fault Refusal :=
  s.request p .read fun k =>
    (k, readRecords s.sensed (k.assembling p (requestFrame 1 [table, first, count])) table.toNat first.toNat count.toNat)

/-- What STATUS gives a port (R165). -/
def statusInfo (e : Sensed) (k : Control) (p : Port) : StatusInfo where
  fresh := e.mlr.fresh
  hasBeenFresh := e.mlr.firstFresh
  roleA := (k.port .cpA).role
  roleB := (k.port .cpB).role
  holder := authorityHolder k
  localKey := k.cpi.keys.localKey.level
  settingsKey := k.cpi.keys.settingsKey.level
  hold := k.tsq.hold
  supply := k.tiu.supply
  transferActive := .ofFn fun l => (k.xfer l).inProgress
  writeInFlight := k.storeBusy
  unread := unread k p

/-- STATUS (R165). -/
def execStatus (p : Port) (s : State) : Host.Outcome State Fault Refusal :=
  s.request p .read fun k => (k, { status := .done, payload := .status (statusInfo s.sensed k p) })

/-- A port's cursor set. -/
def Control.setCursor (k : Control) (p : Port) (n : Word16) : Control :=
  { k with erq := { k.erq with cursors := k.erq.cursors.set p n } }

/-- EVENT_READ at ERQ (R172). -/
def Control.readEvents (p : Port) (n : Nat) (k : Control) : Control × Response :=
  if n < 1 || 4 < n then (k, refusal .range)
  else
    let out := eventsFrom k.erq p n
    (k.setCursor p (k.erq.cursors.get p + BitVec.ofNat 16 out.length),
      doneWith (u8 out.length ++ out.flatMap Event.bytes))

/-- EVENT_READ (R172). -/
def execEventRead (p : Port) (number : Byte) (s : State) : Host.Outcome State Fault Refusal :=
  s.request p .read (Control.readEvents p number.toNat)

/-- ACK_ATTENTION at ERQ (R172). -/
def Control.acknowledgeEvents (p : Port) (k : Control) : Control × Response :=
  (k.setCursor p k.erq.nextSeq, plain .done)

/-- ACK_ATTENTION (R172). -/
def execAckAttention (p : Port) (s : State) : Host.Outcome State Fault Refusal :=
  s.request p .operate (Control.acknowledgeEvents p)

/-! ## Roles -/

/-- A port's role and lapse timer set. -/
def Control.setRole (k : Control) (p : Port) (role : Role) (lapse : Timer) : Control :=
  k.modPort p fun c => { c with role := role, lapse := lapse }

/-- TAKEOVER at CPI (R166). -/
def Control.takeOver (e : Sensed) (p : Port) (k : Control) : Control × Response :=
  match activePort k with
  | some _ => (k, refusal .authority)
  | none =>
    ((k.setRole p .active (.start e.now k.common.lapseTime)).record e .roleChange (.port p) .takeover 1, plain .done)

/-- TAKEOVER (R166). -/
def execTakeover (p : Port) (s : State) : Host.Outcome State Fault Refusal :=
  s.request p .role (Control.takeOver s.sensed p)

/-- RELEASE at CPI (R167). -/
def Control.releaseRole (e : Sensed) (p : Port) (k : Control) : Control × Response :=
  match (k.port p).role with
  | .standby => (k, plain .done)
  | .active | .lapsed =>
    ((k.setRole p .standby .off).record e .roleChange (.port p) .release 0, plain .done)

/-- RELEASE (R167). -/
def execRelease (p : Port) (s : State) : Host.Outcome State Fault Refusal :=
  s.request p .role (Control.releaseRole s.sensed p)

/-- The answer of LIVENESS (R167). -/
def livenessAnswer (k : Control) (p : Port) : Response where
  status := .done
  payload := .liveness (k.port .cpA).role (k.port .cpB).role (if isActive k p then some k.common.lapseTime else none)

/-- LIVENESS (R167). -/
def execLiveness (p : Port) (s : State) : Host.Outcome State Fault Refusal :=
  s.request p .role fun k => (k, livenessAnswer k p)

/-- The ACTIVE port's lapse (R168). -/
def Control.lapse (e : Sensed) (p : Port) (k : Control) : Control :=
  (k.setRole p .lapsed .off).record e .livenessLapse (.port p) .none 2

/-- LIVENESS_LAPSE (R168). -/
def execLivenessLapse (p : Port) (s : State) : Host.Outcome State Fault Refusal :=
  s.act fun k => if isActive k p && (k.port p).lapse.due s.sensed.now then k.lapse s.sensed p else k

end Sys2Proof.Machine
end

