-- ==== Sys2Proof/Machine/Reset.lean ====
section
/-! DEFINITION. Device reset: assertion and release of the reset input (R64, R127, R142, R160, R173, R178, R180). -/

namespace Sys2Proof.Machine

/-- The levels at the inputs the part reads as levels, with whether a window is open at each port. -/
def inputLevels (k : Control) (windowOpen : PerPort Bool) : InputLevels where
  closedMade := .ofFn fun b => (k.breaker b).closedMade
  openMade := .ofFn fun b => (k.breaker b).openMade
  ready := .ofFn fun n => (k.slot n).ready
  keys := .ofFn fun key => (k.cpi.keys.get key).input
  windowOpen := windowOpen

/-- The queue while reset is asserted: empty (R180). -/
def emptyErq : Erq where
  events := []
  nextSeq := 0
  cursors := .ofFn fun _ => 0

/-- What the blocks hold while reset is asserted: what they hold after it, but that the queue is empty, every bias
output is low, no write runs, and no contact level is timed (R64, R127, R173, R176, R180). DEDUCED: assumption 26. -/
def heldInReset (k : Control) : Control :=
  let k1 := resetControl k.sst.image true (inputLevels k (.ofFn fun _ => false))
  { k1 with
    erq := emptyErq
    gsc := { k1.gsc with bias := { k1.gsc.bias with high := .ofFn fun _ => false } }
    bcu := .ofFn fun b => { k1.breaker b with settle := .off } }

/-- RESET_INPUT_ASSERTED. The stored image alone is kept. -/
def execResetInputAsserted (s : State) : Host.Outcome State Fault Refusal :=
  .next { s with sensed := resetSensed, control := heldInReset s.control, inReset := true }

/-- Whether a window is open at each port at a release of reset (R173): a free value, as the chip-selects have no row of
the table. DESIGN CHOICE: assumption 64. -/
def State.windowsAtRelease (s : State) : PerPort Bool := .ofFn fun p => Config.windowAtRelease p s.releases

/-- DEVICE_RESET: the release of the reset input, with the store's judgement of its image (R178).
DESIGN CHOICE: assumption 25. -/
def execDeviceReset (imageIntact : Bool) (s : State) : Host.Outcome State Fault Refusal :=
  .next { s with
    sensed := resetSensed
    control := resetControl s.control.sst.image imageIntact (inputLevels s.control s.windowsAtRelease)
    inReset := false
    releases := s.releases + 1 }

end Sys2Proof.Machine
end

