-- ==== Sys2Proof/Machine/Store.lean ====
section
/-! DEFINITION. The commands of SST and of PRU's curve load buffer (spec/10, R174 to R177; spec/08, R149 and R150), and
WINDOW (R170). -/

namespace Sys2Proof.Machine

/-- NONVOLATILE_WRITE_COMPLETION (R176). DESIGN CHOICE: assumption 47. -/
def execNonvolatileWriteCompletion (verified : Bool) (s : State) : Host.Outcome State Fault Refusal :=
  s.act fun k => match k.sst.write with
    | some w => k.completeWrite s.sensed w verified
    | none => k

/-! ## Groups -/

/-- The active group changed (R177): the event and the write. -/
def Control.changeGroup (e : Sensed) (p : Port) (g : GroupNo) (k : Control) : Control :=
  let old := k.sst.working.active
  let k1 := k.putWorking { k.sst.working with active := g }
  (k1.record e .groupChanged (.port p) (.oldGroup old.index) g.index).startWrite e (.group p g)

/-- GROUP_SELECT at SST (R177). -/
def Control.selectGroup (e : Sensed) (p : Port) (g : GroupNo) (k : Control) : Control × Response :=
  if g = k.sst.working.active then (k, plain .done)
  else if k.storeBusy then (k, refusal .storeBusy)
  else (k.changeGroup e p g, plain .done)

/-- GROUP_SELECT (R177). -/
def execGroupSelect (p : Port) (group : Byte) (s : State) : Host.Outcome State Fault Refusal :=
  s.request p .operate fun k => match groupOf group with
    | some g => Control.selectGroup s.sensed p g k
    | none => (k, refusal .range)

/-- A port's group window set (R170). -/
def Control.setWindow (p : Port) (g : GroupNo) (k : Control) : Control := k.modPort p fun c => { c with window := g }

/-- WINDOW (R170). -/
def execWindow (p : Port) (group : Byte) (s : State) : Host.Outcome State Fault Refusal :=
  s.request p .setting fun k => match groupOf group with
    | some g => (k.setWindow p g, plain .done)
    | none => (k, refusal .range)

/-! ## Settings -/

/-- The value an item code and an index name from a port's group window (R170, R174, R175 order 1). -/
def itemNamed (k : Control) (p : Port) (code index : Byte) : Option ItemRef :=
  match Item.ofCode code.toNat with
  | some i => (i.unitOf index.toNat).map fun u =>
      { item := i, unit := u, group := if i.isGroup then (k.port p).window else .n0 }
  | none => none

/-- The working value of an item (R174). -/
def Control.settingValue (k : Control) (r : ItemRef) : Nat := k.sst.working.readItem r.group r.item r.unit

/-- The range SETTING_READ gives; the tables state none for the two permutation items. -/
def shownRange (i : Item) : Nat × Nat := i.range.getD (Config.permutationRange i)

/-- The answer of SETTING_READ (R174; spec/11, after Table 11-1). -/
def settingAnswer (k : Control) (r : ItemRef) : Response :=
  doneWith (u32 (k.settingValue r) ++ u32 (shownRange r.item).1 ++ u32 (shownRange r.item).2 ++
    flag (k.sst.unstored.has r))

/-- SETTING_READ (R174). -/
def execSettingRead (p : Port) (code index : Byte) (s : State) : Host.Outcome State Fault Refusal :=
  s.request p .setting fun k => match itemNamed k p code index with
    | some r => (k, settingAnswer k r)
    | none => (k, refusal .range)

/-- The working data with one value written. -/
def withValue (k : Control) (r : ItemRef) (v : Nat) : StoreData := k.sst.working.writeItem r.group r.item r.unit v

/-- The refusal of a SETTING_WRITE of a value the tables hold, if it is refused (R175, orders 2 to 4). -/
def writeRefusal (k : Control) (r : ItemRef) (v : Nat) : Option Reason :=
  if !r.item.inRange v then some .range
  else if !(withValue k r v).consistentFor r.item r.group then some .inconsistent
  else if k.storeBusy then some .storeBusy
  else none

/-- Whether an item is a setting of the chapter Transfer Sequencing, whose writes TSQ evaluates its triggers at (R83). -/
def Item.ofTransfers : Item → Bool
  | .autoTransfer | .autoRetransfer | .tiePermitted | .closedTransition | .deadTime | .residualThreshold
  | .generatorWait => true
  | _ => false

/-- The shed list sorted anew (R130). -/
def Control.sortShedList (k : Control) : Control :=
  { k with ldm := { k.ldm with shedList := sortBlocks k k.ldm.shedList } }

/-- The restore interval at a write of its length (R138). One frozen in hold takes the whole new length as its remaining
time. DESIGN CHOICE: assumption 60. -/
def Control.restartInterval (e : Sensed) (k : Control) : Control :=
  let len := k.common.restoreInterval * 1000
  let t := match k.ldm.restoreTimer with
    | .off => .off
    | .running _ => Timer.start e.now len
    | .held _ => .held len
  { k with ldm := { k.ldm with restoreTimer := t } }

/-- What a change of rating brings about (R108, R111, R119): `old` is the capacity online before the write.
DEDUCED: assumption 44. -/
def Control.ratingWritten (e : Sensed) (old : Nat) (k : Control) : Control :=
  if capacityOnline k = old then k.tell [.planEvaluation]
  else (k.capacitySmn e).tell [.capacityChanged, .planEvaluation]

/-- What a block does at once at the write of one of its settings; `old` is the capacity online before the write. -/
def Control.settingWritten (e : Sensed) (r : ItemRef) (old : Nat) (k : Control) : Control :=
  match r.item, r.unit with
  | .slotEnabled, .slot n => (k.judgeAvailable e n .setting).tell [.planEvaluation]
  | .rating, _ => k.ratingWritten e old
  | .startOrder, _ => k.tell [.planEvaluation]
  | .dmin, _ | .dmax, _ => k.reclamp
  | .estimate, _ => k.updateRequired
  | .shedPriority, _ => k.sortShedList.updateRequired
  | .restoreInterval, _ => k.restartInterval e
  | i, _ => if i.ofTransfers then k.tell [.triggers] else k

/-- A setting write that passes (R175). -/
def Control.writeSetting (e : Sensed) (p : Port) (r : ItemRef) (v : Nat) (k : Control) : Control :=
  let k1 := k.putWorking (withValue k r v)
  let k2 := (k1.record e .settingChanged (.port p) .setting r.item.code).startWrite e (.setting p r)
  k2.settingWritten e r (capacityOnline k)

/-- SETTING_WRITE at SST (R175). -/
def Control.requestWrite (e : Sensed) (p : Port) (r : ItemRef) (v : Nat) (k : Control) : Control × Response :=
  match writeRefusal k r v with
  | some why => (k, refusal why)
  | none => (k.writeSetting e p r v, plain .done)

/-- SETTING_WRITE (R175). -/
def execSettingWrite (p : Port) (code index : Byte) (value : Word32) (s : State) : Host.Outcome State Fault Refusal :=
  s.request p .setting fun k => match itemNamed k p code index with
    | some r => Control.requestWrite s.sensed p r value.toNat k
    | none => (k, refusal .range)

/-! ## The curve load buffer -/

/-- The curve load buffer replaced. -/
def Control.putBuffer (k : Control) (b : CurveBuffer) : Control := { k with pru := { k.pru with buffer := b } }

/-- CURVE_BEGIN at PRU (R149). -/
def Control.beginCurve (p : Port) (c : CurveNo) (k : Control) : Control × Response :=
  (k.putBuffer { owner := some p, curve := c, index := 0, entries := [] }, plain .done)

/-- CURVE_BEGIN (R149). -/
def execCurveBegin (p : Port) (curve : Byte) (s : State) : Host.Outcome State Fault Refusal :=
  s.request p .setting fun k => match curveOf curve with
    | some c => Control.beginCurve p c k
    | none => (k, refusal .range)

/-- Whether an entry lies within the ranges of Table 11-4. -/
def entryInRange (x : CurveEntry) : Bool :=
  16 ≤ x.threshold && x.threshold ≤ 65535 && 1 ≤ x.rate && x.rate ≤ bucketFull

/-- The buffer after a validation: without owner or entries, its index at 16 (R150). DEDUCED: assumption 28. -/
def CurveBuffer.emptied (b : CurveBuffer) : CurveBuffer := { b with owner := none, index := 16, entries := [] }

/-- A valid table put in place (R150): the event and the write. -/
def Control.replaceCurve (e : Sensed) (p : Port) (c : CurveNo) (t : List CurveEntry) (k : Control) : Control :=
  let k1 := k.putWorking { k.sst.working with curves := k.sst.working.curves.set c t }
  (k1.record e .settingChanged (.port p) .curve c.index).startWrite e (.curve p c)

/-- The validation of the buffer with its sixteen entries (R150). -/
def Control.validateCurve (e : Sensed) (p : Port) (t : List CurveEntry) (k : Control) : Control × Response :=
  let b := k.pru.buffer
  let k1 := k.putBuffer b.emptied
  if curveValid t then (k1.replaceCurve e p b.curve t, plain .done) else (k1, refusal .inconsistent)

/-- CURVE_ENTRY at PRU, by the rows of R150 in their order, which puts the owner before the ranges.
DEDUCED: assumption 61. -/
def Control.curveEntry (e : Sensed) (p : Port) (x : CurveEntry) (k : Control) : Control × Response :=
  let b := k.pru.buffer
  if b.owner ≠ some p then (k, refusal .inconsistent)
  else if !entryInRange x then (k, refusal .range)
  else if b.index < 15 then (k.putBuffer { b with index := b.index + 1, entries := b.entries ++ [x] }, plain .done)
  else if k.storeBusy then (k, refusal .storeBusy)
  else k.validateCurve e p (b.entries ++ [x])

/-- CURVE_ENTRY (R150). -/
def execCurveEntry (p : Port) (threshold : Word16) (rate : Word32) (s : State) : Host.Outcome State Fault Refusal :=
  s.request p .setting (Control.curveEntry s.sensed p { threshold := threshold.toNat, rate := rate.toNat })

end Sys2Proof.Machine
end

