-- ==== Sys2Proof/Machine/Switching.lean ====
section
/-! DEFINITION. The commands of SYE, BCU, TIU and PRU (spec/02, 03, 04 and 08): deadlines, contacts, claims, overlaps,
breaker failure, and the requests that name a breaker. -/

namespace Sys2Proof.Machine

/-- ATTEMPT_DEADLINE (R37). -/
def execAttemptDeadline (n : AttemptNo) (s : State) : Host.Outcome State Fault Refusal :=
  s.act fun k => match k.attempt n with
    | some a =>
      if a.state = .evaluating && reached a.deadline s.sensed.now then k.endAttempt s.sensed n .timeout none none
      else k
    | none => k

/-- CONTACT_COMBINATION_CHANGE (R43): the levels are taken, and the timing starts afresh on a new combination. The
inputs keep their levels while reset is asserted. -/
def execContactCombinationChange (b : Breaker) (closedMade openMade : Bool) (s : State) :
    Host.Outcome State Fault Refusal :=
  let r := s.control.breaker b
  if r.closedMade = closedMade && r.openMade = openMade then .next s
  else if s.inReset then
    .next { s with control := s.control.modBreaker b fun r => { r with closedMade := closedMade, openMade := openMade } }
  else
    s.act fun k => k.modBreaker b fun r =>
      { r with
        closedMade := closedMade
        openMade := openMade
        settle := .start s.sensed.now k.common.settleTime }

/-- CONTACT_SETTLE (R43, R44). -/
def execContactSettle (b : Breaker) (s : State) : Host.Outcome State Fault Refusal :=
  s.act fun k => if (k.breaker b).settle.due s.sensed.now then k.settleContacts s.sensed b else k

/-- OPERATION_DEADLINE (R50). -/
def execOperationDeadline (b : Breaker) (s : State) : Host.Outcome State Fault Refusal :=
  s.act fun k => match (k.breaker b).op with
    | some op => if reached op.deadline s.sensed.now then k.failOperation s.sensed b op else k
    | none => k

/-- CLAIM_LAPSE (R77). -/
def execClaimLapse (bus : ClaimBus) (s : State) : Host.Outcome State Fault Refusal :=
  s.act fun k => match (k.claim bus).holder with
    | some h => if !h.started && reached h.lapse s.sensed.now then k.endHolder s.sensed bus .lapsed else k
    | none => k

/-- The breakers an overlap expiry trips (R81). -/
def overlapTargets (k : Control) (o : OverlapTimer) : List Breaker :=
  let mains := [Breaker.ma, Breaker.mb].filter fun b => possiblyClosed k b && o.group.get (breakerR b)
  let rest := if mains.isEmpty then [.tie] else mains
  match o.arriving with
  | some b => if possiblyClosed k b then [b] else rest
  | none => rest

/-- The first of BA, BB and GB in a set of nodes (R81). -/
def overlapSubject (g : PerChannel Bool) : Subject :=
  match ClaimBus.all.find? (fun c => g.get (claimChannel c)) with
  | some c => .bus c
  | none => .none

/-- The expiry of an overlap timer (R81). -/
def Control.overlapExpire (e : Sensed) (k : Control) (o : OverlapTimer) : Control :=
  let mark (t : OverlapTimer) : OverlapTimer := if t.group = o.group then { t with expired := true } else t
  let k1 : Control := { k with tiu := { k.tiu with overlaps := k.tiu.overlaps.map mark } }
  let targets := overlapTargets k1 o
  let k2 := forEach targets (fun b k => k.bcuTrip e b .overlap .overlapExceeded) k1
  (k2.recordNoCause e .overlapExceeded (overlapSubject o.group) targets.length).tell [.overlapExpired o.group]

/-- OVERLAP_EXPIRY (R81). -/
def execOverlapExpiry (node : Channel) (s : State) : Host.Outcome State Fault Refusal :=
  s.act fun k =>
    match k.tiu.overlaps.find? (fun o => o.group.get node && !o.expired && reached o.deadline s.sensed.now) with
    | some o => k.overlapExpire s.sensed o
    | none => k

/-- FAILURE_TIMER_EXPIRY (R157). -/
def execFailureTimerExpiry (b : Breaker) (s : State) : Host.Outcome State Fault Refusal :=
  s.act fun k => if (k.prot b).failure.due s.sensed.now then k.failureExpired s.sensed b else k

/-! ## Requests that name a breaker -/

/-- A request whose one operand names a breaker: a value outside the indexes is refused RANGE (R162, R183). -/
def withBreaker (x : Byte) (owner : Breaker → Control → Control × Response) (k : Control) : Control × Response :=
  match breakerOf x with
  | some b => owner b k
  | none => (k, refusal .range)

/-- A port's close demand (R69). -/
def Control.portClose (e : Sensed) (p : Port) (b : Breaker) (k : Control) : Control × Response :=
  let (k1, a) := k.closeDemand e b (.port p)
  (k1, demandAnswer a)

/-- OPERATE_CLOSE (R69, R162 order 4). -/
def execOperateClose (p : Port) (breaker : Byte) (s : State) : Host.Outcome State Fault Refusal :=
  s.request p .operate fun k =>
    if s.sensed.mlr.firstFresh then withBreaker breaker (Control.portClose s.sensed p) k
    else (k, refusal .notReady)

/-- A port's open demand (R47, R52). -/
def Control.portOpen (e : Sensed) (p : Port) (b : Breaker) (k : Control) : Control × Response :=
  let (k1, a) := k.bcuOpen e b (.port p)
  (k1, demandAnswer a)

/-- OPERATE_OPEN (R47, R52). -/
def execOperateOpen (p : Port) (breaker : Byte) (s : State) : Host.Outcome State Fault Refusal :=
  s.request p .operate (withBreaker breaker (Control.portOpen s.sensed p))

/-- Both flags of a breaker cleared (R56). -/
def Control.clearFlags (b : Breaker) (k : Control) : Control × Response :=
  (k.modBreaker b fun r => { r with closeBlocked := false, openFailed := false }, plain .done)

/-- RESET_BREAKER (R56). -/
def execResetBreaker (p : Port) (breaker : Byte) (s : State) : Host.Outcome State Fault Refusal :=
  s.request p .operate (withBreaker breaker Control.clearFlags)

/-- The refusal of a RESET_LOCKOUT of a breaker that is locked out (R155, orders 2 to 6). -/
def lockoutResetRefusal (e : Sensed) (k : Control) (b : Breaker) : Option Reason :=
  if (k.prot b).failure.active || (k.prot b).backupWatch then some .busy
  else if !e.mlr.firstFresh then some .notReady
  else if !e.mlr.fresh then some .stale
  else if k.group.pickup.get b ≠ 0 && k.group.pickup.get b ≤ e.mlr.image.curr.get b then some .causePresent
  else if k.storeBusy then some .storeBusy
  else none

/-- A lockout cleared (R155, order 7). -/
def Control.clearLockout (e : Sensed) (p : Port) (b : Breaker) (k : Control) : Control :=
  let old := (k.lockout b).cause
  let k1 := k.putLockout b ⟨false, .none⟩
  let k2 := k1.modProt b fun r => { r with bucket := 0, instCount := 0, reverse := 0, operated := false }
  (k2.handLockout e b).record e .lockoutReset (.breaker b) old p.index

/-- RESET_LOCKOUT at PRU (R155). -/
def Control.resetLockout (e : Sensed) (p : Port) (b : Breaker) (k : Control) : Control × Response :=
  if !(k.lockout b).flag then (k, plain .done)
  else match lockoutResetRefusal e k b with
    | some r => (k, refusal r)
    | none => (k.clearLockout e p b, plain .done)

/-- RESET_LOCKOUT (R155). -/
def execResetLockout (p : Port) (breaker : Byte) (s : State) : Host.Outcome State Fault Refusal :=
  s.request p .operate (withBreaker breaker (Control.resetLockout s.sensed p))

/-- The refusal of a SERVICE that would change a flag (R61). -/
def serviceRefusal (k : Control) (b : Breaker) (set : Bool) : Option Reason :=
  let r := k.breaker b
  if r.op.isSome then some .busy
  else if set && r.holder.isSome then some .reserved
  else if r.observed ≠ .opened then some .inconsistent
  else if k.storeBusy then some .storeBusy
  else none

/-- An out-of-service flag changed (R61): the event, the write, and the notices. -/
def Control.changeService (e : Sensed) (b : Breaker) (set : Bool) (k : Control) : Control :=
  let d := k.sst.working
  let k1 := k.putWorking { d with outOfService := d.outOfService.set b set }
  let k2 := (k1.record e .settingChanged (.breaker b) .service set.toNat).startWrite e (.service b)
  (k2.recompute e none).tell [.serviceChanged b]

/-- SERVICE at BCU (R61). -/
def Control.service (e : Sensed) (set : Bool) (b : Breaker) (k : Control) : Control × Response :=
  if k.outOfService b = set then (k, plain .done)
  else match serviceRefusal k b set with
    | some r => (k, refusal r)
    | none => (k.changeService e b set, plain .done)

/-- SERVICE (R61). DEDUCED: assumption 33. -/
def execService (p : Port) (breaker flag : Byte) (s : State) : Host.Outcome State Fault Refusal :=
  s.request p .panel fun k => match flagOf flag with
    | some set => withBreaker breaker (Control.service s.sensed set) k
    | none => (k, refusal .range)

end Sys2Proof.Machine
end

