-- ==== Sys2Proof/Machine/Transfers.lean ====
section
/-! DEFINITION. The commands of TSQ (spec/05): stage timers, the GB loss timer, the start-up delay, TRANSFER,
CANCEL_TRANSFER, hold, step and sequence reset. -/

namespace Sys2Proof.Machine

/-! ## Timers -/

/-- Whether a transfer's stage timer has run out in a stage. -/
def stageDue (e : Sensed) (k : Control) (l : Bus) (s : Stage) : Bool :=
  inStage k l s && (k.xfer l).timer.due e.now

/-- RESERVE_TIMER_EXPIRY (R94). -/
def execReserveTimerExpiry (bus : Bus) (s : State) : Host.Outcome State Fault Refusal :=
  s.act fun k => if stageDue s.sensed k bus .reserve then k.endTransfer s.sensed bus .resourceBusy else k

/-- DEAD_TIME_EXPIRY (R96): the stage timer goes, whether or not the stage goes on. DESIGN CHOICE: assumption 81. -/
def execDeadTimeExpiry (bus : Bus) (s : State) : Host.Outcome State Fault Refusal :=
  s.act fun k =>
    if stageDue s.sensed k bus .deadWait then
      (k.modXfer bus fun x => { x with timer := .off }).tell [.progress bus]
    else k

/-- GENERATOR_WAIT_EXPIRY (R97). -/
def execGeneratorWaitExpiry (bus : Bus) (s : State) : Host.Outcome State Fault Refusal :=
  s.act fun k =>
    if stageDue s.sensed k bus .sourceWait then
      if 0 < capacityOnline k then k.enterStage s.sensed bus .preShed else k.endTransfer s.sensed bus .noSource
    else k

/-- ARRIVAL_LIMIT_EXPIRY (R99, R100). -/
def execArrivalLimitExpiry (bus : Bus) (s : State) : Host.Outcome State Fault Refusal :=
  s.act fun k =>
    if stageDue s.sensed k bus .closeArriving || stageDue s.sensed k bus .syncWait then
      k.endTransfer s.sensed bus .arrivingFailed
    else k

/-- GB_LOSS_TIMER_EXPIRY (R84). -/
def execGbLossTimerExpiry (s : State) : Host.Outcome State Fault Refusal :=
  s.act fun k =>
    if k.tsq.gbLossTimer.due s.sensed.now then
      ({ k with tsq := { k.tsq with gbLossTimer := .off, gbLost := true } } : Control).triggers s.sensed
    else k

/-- RECOVER armed on a bus that is DEAD (R86). -/
def Control.armDead (k : Control) (l : Bus) : Control :=
  if k.tiu.supply.get l = .dead then k.modXfer l fun x => { x with recoverArmed := true } else k

/-- START_UP_DELAY_END (R83, R181). -/
def execStartUpDelayEnd (s : State) : Host.Outcome State Fault Refusal :=
  s.act fun k =>
    if k.tsq.startUpDelay.due s.sensed.now then
      let k1 : Control := { k with tsq := { k.tsq with startUpDelay := .off, startUpEnded := true } }
      (((k1.armDead .ba).armDead .bb).judgeGbLoss s.sensed).triggers s.sensed
    else k

/-! ## Requests -/

/-- The refusal of a TRANSFER (R91). `mode` is absent for AUTO. -/
def transferRefusal (e : Sensed) (k : Control) (l : Bus) (t : Target) (mode : Option Mode) : Option Reason :=
  let b := arrivingFor l t
  let supply := k.tiu.supply.get l
  let closed : Bool := mode = some .closedTransition
  if !e.mlr.firstFresh then some .notReady
  else if (k.xfer l).inProgress then some .busy
  else if supply = .parallel || t.supply = supply || (t = .tie && k.tiu.supply.get (otherBus l) ≠ .utility) then
    some .inconsistent
  else if k.outOfService b then some .outOfService
  else if (k.lockout b).flag then some .lockout
  else if (k.breaker b).closeBlocked then some .closeBlocked
  else if t = .gen && !someSlotUsable k then some .inconsistent
  else if closed && supply = .dead then some .inconsistent
  else if closed && !closedPermitted k l t then some .parallelNotPermitted
  else if closed && !sourcesLive e k l t then some .voltageIndeterminate
  else none

/-- TRANSFER at TSQ (R91). -/
def Control.requestTransfer (e : Sensed) (l : Bus) (t : Target) (mode : Option Mode) (k : Control) :
    Control × Response :=
  match transferRefusal e k l t mode with
  | some r => (k, refusal r)
  | none => (k.createTransfer e l .request (some t) (mode.getD (autoMode e k l t)), plain .accepted)

/-- TRANSFER (R91). -/
def execTransfer (p : Port) (bus target mode : Byte) (s : State) : Host.Outcome State Fault Refusal :=
  s.request p .operate fun k => match busOf bus, targetOf target, modeOf mode with
    | some l, some t, some m => Control.requestTransfer s.sensed l t m k
    | _, _, _ => (k, refusal .range)

/-- CANCEL_TRANSFER at TSQ (R92). -/
def Control.cancelTransfer (e : Sensed) (l : Bus) (k : Control) : Control × Response :=
  let x := k.xfer l
  if !x.inProgress then (k, refusal .inconsistent)
  else if x.closeStarted then (k, refusal .busy)
  else (k.endTransfer e l .cancelled, plain .done)

/-- A request whose one operand names a load bus. -/
def withBus (x : Byte) (owner : Bus → Control → Control × Response) (k : Control) : Control × Response :=
  match busOf x with
  | some l => owner l k
  | none => (k, refusal .range)

/-- CANCEL_TRANSFER (R92). -/
def execCancelTransfer (p : Port) (bus : Byte) (s : State) : Host.Outcome State Fault Refusal :=
  s.request p .operate (withBus bus (Control.cancelTransfer s.sensed))

/-- HOLD (R104). -/
def execHold (p : Port) (s : State) : Host.Outcome State Fault Refusal :=
  s.request p .panel fun k =>
    if !k.cpi.keys.localKey.level then (k, refusal .accessClass)
    else if k.tsq.hold then (k, plain .done)
    else (k.enterHold s.sensed p, plain .done)

/-- RELEASE_HOLD (R104). -/
def execReleaseHold (p : Port) (s : State) : Host.Outcome State Fault Refusal :=
  s.request p .panel fun k =>
    (if k.tsq.hold then k.leaveHold s.sensed .release else k, plain .done)

/-- STEP at TSQ (R106). -/
def Control.takeStep (e : Sensed) (l : Bus) (k : Control) : Control × Response :=
  if !k.tsq.hold then (k, refusal .hold)
  else if !(k.xfer l).inProgress then (k, refusal .inconsistent)
  else if (k.xfer l).stepPending then (k, plain .done)
  else ((k.modXfer l fun x => { x with stepPending := true }).useStep e l, plain .done)

/-- STEP (R106). -/
def execStep (p : Port) (bus : Byte) (s : State) : Host.Outcome State Fault Refusal :=
  s.request p .panel (withBus bus (Control.takeStep s.sensed))

/-! ## Sequence reset -/

/-- Every transfer in progress ended by a sequence reset, BA first (R107). Step 8 of each end is taken up after the whole
reset. DESIGN CHOICE: assumption 100. -/
def Control.resetTransfers (e : Sensed) (k : Control) : Control :=
  forEach Bus.all (fun l k => if (k.xfer l).inProgress then k.endTransfer e l .sequenceReset else k) k

/-- Every attempt in progress ended by a sequence reset, in slot order (R40). -/
def Control.resetAttempts (e : Sensed) (k : Control) : Control :=
  forEach AttemptNo.all
    (fun n k => match k.attempt n with
      | some a => if a.inProgress then k.endAttempt e n .sequenceReset none none else k
      | none => k)
    k

/-- A claim's holders ended by a sequence reset while one stands, at most `n` of them (R78): the end of one may grant
the next. -/
def Control.resetHolders (e : Sensed) (c : ClaimBus) : Nat → Control → Control
  | 0, k => k
  | n + 1, k => if (k.claim c).holder.isSome then Control.resetHolders e c n (k.endHolder e c .sequenceReset) else k

/-- Every request of one claim ended by a sequence reset (R78). -/
def Control.resetClaim (e : Sensed) (c : ClaimBus) (k : Control) : Control :=
  let k1 := Control.resetHolders e c 9 k
  forEach ((k1.claim c).waiting.map fun r => r.breaker) (fun b k => k.endWaiting e c b .sequenceReset) k1

/-- Every reservation released (R60). -/
def Control.releaseAll (k : Control) : Control :=
  forEach Breaker.all
    (fun b k => match (k.breaker b).holder with
      | some h => k.releaseReservation b h
      | none => k)
    k

/-- LDM at a sequence reset (R138). -/
def Control.resetPacing (k : Control) : Control :=
  { k with ldm := { k.ldm with
      blocks := .ofFn fun f => { k.ldm.blocks.get f with restoreRequested := false }
      restoreTimer := .off
      pacingStopped := true } }

/-- A sequence reset (R107, R40, R78, R60, R126, R138), after its event (R179). The attempts are reached first, then the
transfers, claims, reservations, slots and blocks. DESIGN CHOICE: assumption 99. The plan is evaluated for the changes of
slots that the reset makes. DESIGN CHOICE: assumption 104. -/
def Control.sequenceReset (e : Sensed) (p : Port) (k : Control) : Control × Response :=
  let k0 := k.record e .sequenceReset (.port p) .none 0
  let k1 := (k0.resetAttempts e).resetTransfers e
  let k2 := (forEach ClaimBus.all (fun c k => k.resetClaim e c) k1).releaseAll
  let k3 := forEach Slot.all (fun n k => k.resetSlotSequence e n) k2
  (k3.resetPacing, plain .done)

/-- SEQUENCE_RESET (R107). DEDUCED: assumption 32. -/
def execSequenceReset (p : Port) (s : State) : Host.Outcome State Fault Refusal :=
  s.request p .operate (Control.sequenceReset s.sensed p)

end Sys2Proof.Machine
end

