-- ==== Sys2Proof/Machine/Dispatch.lean ====
section
/-! DEFINITION. The effect of each command on everything but the queue: one arm for each row of the command table. -/

namespace Sys2Proof.Machine

/-- The meaning of a command. -/
def exec (i : Instr) (s : State) : Host.Outcome State Fault Refusal :=
  match i with
  | .measurementFrame bytes extraBits => Sys2Proof.Machine.execMeasurementFrame bytes extraBits s
  | .frameWatchdogExpiry => Sys2Proof.Machine.execFrameWatchdogExpiry s
  | .zeroCrossingRise c => Sys2Proof.Machine.execZeroCrossingRise c s
  | .pulseDiscarded c => Sys2Proof.Machine.execPulseDiscarded c s
  | .qualifiedEdge c => Sys2Proof.Machine.execQualifiedEdge c s
  | .lastEdgeTimerExpiry c => Sys2Proof.Machine.execLastEdgeTimerExpiry c s
  | .lossDelayExpiry u => Sys2Proof.Machine.execLossDelayExpiry u s
  | .returnStableExpiry u => Sys2Proof.Machine.execReturnStableExpiry u s
  | .attemptDeadline n => Sys2Proof.Machine.execAttemptDeadline n s
  | .contactCombinationChange b closedMade openMade => Sys2Proof.Machine.execContactCombinationChange b closedMade openMade s
  | .contactSettle b => Sys2Proof.Machine.execContactSettle b s
  | .operationDeadline b => Sys2Proof.Machine.execOperationDeadline b s
  | .claimLapse bus => Sys2Proof.Machine.execClaimLapse bus s
  | .overlapExpiry node => Sys2Proof.Machine.execOverlapExpiry node s
  | .reserveTimerExpiry bus => Sys2Proof.Machine.execReserveTimerExpiry bus s
  | .deadTimeExpiry bus => Sys2Proof.Machine.execDeadTimeExpiry bus s
  | .generatorWaitExpiry bus => Sys2Proof.Machine.execGeneratorWaitExpiry bus s
  | .arrivalLimitExpiry bus => Sys2Proof.Machine.execArrivalLimitExpiry bus s
  | .gbLossTimerExpiry => Sys2Proof.Machine.execGbLossTimerExpiry s
  | .startUpDelayEnd => Sys2Proof.Machine.execStartUpDelayEnd s
  | .readyChange n level => Sys2Proof.Machine.execReadyChange n level s
  | .startTimerExpiry n => Sys2Proof.Machine.execStartTimerExpiry n s
  | .syncWaitExpiry n => Sys2Proof.Machine.execSyncWaitExpiry n s
  | .rampStepExpiry n => Sys2Proof.Machine.execRampStepExpiry n s
  | .unloadLimitExpiry n => Sys2Proof.Machine.execUnloadLimitExpiry n s
  | .cooldownExpiry n => Sys2Proof.Machine.execCooldownExpiry n s
  | .biasPeriodStart => Sys2Proof.Machine.execBiasPeriodStart s
  | .overloadTimerExpiry => Sys2Proof.Machine.execOverloadTimerExpiry s
  | .underfrequencyTimerExpiry st => Sys2Proof.Machine.execUnderfrequencyTimerExpiry st s
  | .restoreIntervalEnd => Sys2Proof.Machine.execRestoreIntervalEnd s
  | .failureTimerExpiry b => Sys2Proof.Machine.execFailureTimerExpiry b s
  | .nonvolatileWriteCompletion verified => Sys2Proof.Machine.execNonvolatileWriteCompletion verified s
  | .resetInputAsserted => Sys2Proof.Machine.execResetInputAsserted s
  | .deviceReset imageIntact => Sys2Proof.Machine.execDeviceReset imageIntact s
  | .keyInputChange key level => Sys2Proof.Machine.execKeyInputChange key level s
  | .keyChangeEffect key => Sys2Proof.Machine.execKeyChangeEffect key s
  | .livenessLapse p => Sys2Proof.Machine.execLivenessLapse p s
  | .windowEnded p bytes => Sys2Proof.Machine.execWindowEnded p bytes s
  | .badRequest p => Sys2Proof.Machine.execBadRequest p s
  | .readRecord p table first count => Sys2Proof.Machine.execReadRecord p table first count s
  | .status p => Sys2Proof.Machine.execStatus p s
  | .eventRead p number => Sys2Proof.Machine.execEventRead p number s
  | .takeover p => Sys2Proof.Machine.execTakeover p s
  | .release p => Sys2Proof.Machine.execRelease p s
  | .liveness p => Sys2Proof.Machine.execLiveness p s
  | .hold p => Sys2Proof.Machine.execHold p s
  | .releaseHold p => Sys2Proof.Machine.execReleaseHold p s
  | .step p bus => Sys2Proof.Machine.execStep p bus s
  | .service p breaker flag => Sys2Proof.Machine.execService p breaker flag s
  | .operateClose p breaker => Sys2Proof.Machine.execOperateClose p breaker s
  | .operateOpen p breaker => Sys2Proof.Machine.execOperateOpen p breaker s
  | .resetBreaker p breaker => Sys2Proof.Machine.execResetBreaker p breaker s
  | .resetLockout p breaker => Sys2Proof.Machine.execResetLockout p breaker s
  | .transfer p bus target mode => Sys2Proof.Machine.execTransfer p bus target mode s
  | .cancelTransfer p bus => Sys2Proof.Machine.execCancelTransfer p bus s
  | .start p slot => Sys2Proof.Machine.execStart p slot s
  | .stop p slot => Sys2Proof.Machine.execStop p slot s
  | .resetSlot p slot => Sys2Proof.Machine.execResetSlot p slot s
  | .biasSet p slot duty => Sys2Proof.Machine.execBiasSet p slot duty s
  | .shed p mask => Sys2Proof.Machine.execShed p mask s
  | .restore p mask => Sys2Proof.Machine.execRestore p mask s
  | .block p mask => Sys2Proof.Machine.execBlock p mask s
  | .unblock p mask => Sys2Proof.Machine.execUnblock p mask s
  | .groupSelect p group => Sys2Proof.Machine.execGroupSelect p group s
  | .sequenceReset p => Sys2Proof.Machine.execSequenceReset p s
  | .ackAttention p => Sys2Proof.Machine.execAckAttention p s
  | .window p group => Sys2Proof.Machine.execWindow p group s
  | .settingRead p code index => Sys2Proof.Machine.execSettingRead p code index s
  | .settingWrite p code index value => Sys2Proof.Machine.execSettingWrite p code index value s
  | .curveBegin p curve => Sys2Proof.Machine.execCurveBegin p curve s
  | .curveEntry p threshold rate => Sys2Proof.Machine.execCurveEntry p threshold rate s
  | .badCheck p => Sys2Proof.Machine.execBadCheck p s
  | .biasHighTimeEnd n => Sys2Proof.Machine.execBiasHighTimeEnd n s

end Sys2Proof.Machine
end

