-- ==== Sys2Proof/Machine/Timing.lean ====
section
/-! DEFINITION. The passing of time: one tick of the reference when no command waits, and the commands of the timers that
have run out by then. -/

namespace Sys2Proof.Machine

/-- A command, if it is due. -/
def due (test : Bool) (i : Instr) : List Instr := if test then [i] else []

/-- The timers of the measured side that have run out (R4, R8, R11). -/
def dueSensed (e : Sensed) : List Instr :=
  due (e.mlr.watchdog.due e.now) .frameWatchdogExpiry ++
  (Channel.all.flatMap fun c =>
    (match (e.pcu.get c).qual with
      | some q => due (q.length ≤ q.elapsed e.clock.timebase) (.qualifiedEdge c)
      | none => []) ++
    due (lastEdgeDue (e.pcu.get c) e.clock.timebase) (.lastEdgeTimerExpiry c))

/-- The health timers that have run out (R19). -/
def dueHealth (e : Sensed) (k : Control) (u : Utility) : List Instr :=
  let h := k.smn.health.get u
  due (h.state = .pendingLoss && h.timer.due e.now) (.lossDelayExpiry u) ++
  due (h.state = .returning && h.timer.due e.now) (.returnStableExpiry u)

/-- Whether an EVALUATING attempt has reached its deadline (R37). -/
def attemptDue (e : Sensed) (k : Control) (n : AttemptNo) : Bool :=
  match k.attempt n with
  | some a => a.state = .evaluating && reached a.deadline e.now
  | none => false

/-- Whether the operation in flight on a breaker has reached its deadline (R50). -/
def operationDue (e : Sensed) (k : Control) (b : Breaker) : Bool :=
  match (k.breaker b).op with
  | some op => reached op.deadline e.now
  | none => false

/-- The timers of a breaker that have run out (R43, R50, R157). -/
def dueBreaker (e : Sensed) (k : Control) (b : Breaker) : List Instr :=
  due ((k.breaker b).settle.due e.now) (.contactSettle b) ++
  due (operationDue e k b) (.operationDeadline b) ++
  due ((k.prot b).failure.due e.now) (.failureTimerExpiry b)

/-- Whether a claim's holder has reached its lapse deadline with its close not started (R77). -/
def lapseDue (e : Sensed) (k : Control) (c : ClaimBus) : Bool :=
  match (k.claim c).holder with
  | some h => !h.started && reached h.lapse e.now
  | none => false

/-- The overlap timers that have run out, each named by its first node (R81). -/
def dueOverlaps (e : Sensed) (k : Control) : List Instr :=
  k.tiu.overlaps.flatMap fun o =>
    match Channel.all.find? (fun c => o.group.get c) with
    | some c => due (!o.expired && reached o.deadline e.now) (.overlapExpiry c)
    | none => []

/-- The stage timers of a transfer that have run out (R94, R96, R97, R99, R100). -/
def dueTransfer (e : Sensed) (k : Control) (l : Bus) : List Instr :=
  due (stageDue e k l .reserve) (.reserveTimerExpiry l) ++
  due (stageDue e k l .deadWait) (.deadTimeExpiry l) ++
  due (stageDue e k l .sourceWait) (.generatorWaitExpiry l) ++
  due (stageDue e k l .closeArriving || stageDue e k l .syncWait) (.arrivalLimitExpiry l)

/-- The timers of a slot that have run out (R114, R118, R121, R122, R125). -/
def dueSlot (e : Sensed) (k : Control) (n : Slot) : List Instr :=
  due (slotDue e k n .starting) (.startTimerExpiry n) ++
  due (slotDue e k n .synchronizing) (.syncWaitExpiry n) ++
  due ((k.slot n).state = .unloading && (k.slot n).ramp.due e.now) (.rampStepExpiry n) ++
  due (slotDue e k n .unloading) (.unloadLimitExpiry n) ++
  due (slotDue e k n .cooldown) (.cooldownExpiry n) ++
  due (k.gsc.bias.high.get n && k.gsc.bias.highOver n e.clock.timebase) (.biasHighTimeEnd n)

/-- The commands of the timers that have run out, in the order of the command table but block by block. The completion
of a nonvolatile write is not among them: its outcome comes from outside (R176). -/
def dueCommands (e : Sensed) (k : Control) : List Instr :=
  dueSensed e ++
  Utility.all.flatMap (dueHealth e k) ++
  (AttemptNo.all.flatMap fun n => due (attemptDue e k n) (.attemptDeadline n)) ++
  Breaker.all.flatMap (dueBreaker e k) ++
  (ClaimBus.all.flatMap fun c => due (lapseDue e k c) (.claimLapse c)) ++
  dueOverlaps e k ++
  Bus.all.flatMap (dueTransfer e k) ++
  due (k.tsq.gbLossTimer.due e.now) .gbLossTimerExpiry ++
  due (k.tsq.startUpDelay.due e.now) .startUpDelayEnd ++
  Slot.all.flatMap (dueSlot e k) ++
  due (reached k.gsc.bias.periodEnd e.clock.timebase) .biasPeriodStart ++
  due (k.ldm.overload.due e.now) .overloadTimerExpiry ++
  (UfStage.all.flatMap fun st => due ((k.ldm.uf.get st).due e.now) (.underfrequencyTimerExpiry st)) ++
  due (k.ldm.restoreTimer.due e.now) .restoreIntervalEnd ++
  (Key.all.flatMap fun key => due ((k.cpi.keys.get key).timing.due e.now) (.keyChangeEffect key)) ++
  (Port.all.flatMap fun p => due (isActive k p && (k.port p).lapse.due e.now) (.livenessLapse p))

/-- The state one tick of the reference later, with the commands then due in the queue. While reset is asserted the
counters do not run (R180). -/
def State.tick (s : State) : State :=
  if s.inReset then s
  else
    let e : Sensed := { s.sensed with clock := s.sensed.clock.advance 1 }
    { s with sensed := e, pending := s.pending ++ dueCommands e s.control }

end Sys2Proof.Machine
end

