-- ==== Sys2Proof/Safety.lean ====
section
/-! DEFINITION. What counts as a sound state of the part, in the terms the statements use: the promises the manual makes
about the whole machine, the class of each request, and the state that an operation and its consequences leave. -/

namespace Sys2Proof.Machine

/-! ## What an operation and its consequences leave -/

/-- The time of a state, as a value of the millisecond counter. -/
def State.now (s : State) : Word32 := s.sensed.now

/-- The state with these blocks, when all they have told one another has been taken up. -/
def State.settled (s : State) (k : Control) : State := { s with control := k.settle s.sensed cascadeLimit }

/-- The blocks as a command finds them. -/
def State.blocks (s : State) : Control := s.control.begun

/-- The blocks as an admitted or refused request of a port finds them: the lapse timer of an ACTIVE port is reloaded by
every well-formed request (R168). -/
def State.asked (s : State) (p : Port) : Control := s.blocks.reloadLapse s.sensed p

/-! ## What no consequence of a command changes -/

/-- What only a command itself changes in a breaker record, never what follows from it. -/
structure BreakerHeld where
  closedMade : Bool
  openMade : Bool
  settle : Timer
  settled : Bool
  observed : Observed
  closeBlocked : Bool
  openFailed : Bool
  opCount : Nat
  deriving DecidableEq, Repr

/-- The part of a breaker record that only a command itself changes. -/
def BreakerRec.held (r : BreakerRec) : BreakerHeld where
  closedMade := r.closedMade
  openMade := r.openMade
  settle := r.settle
  settled := r.settled
  observed := r.observed
  closeBlocked := r.closeBlocked
  openFailed := r.openFailed
  opCount := r.opCount

/-- What only a command itself changes. -/
structure Held where
  breakers : PerBreaker BreakerHeld
  formed : Bool
  hold : Bool
  startUpDelay : Timer
  startUpEnded : Bool
  ready : PerSlot Bool
  bias : Bias
  buffer : CurveBuffer
  cpi : Cpi
  common : CommonSettings
  groups : PerGroup GroupSettings
  active : GroupNo
  outOfService : PerBreaker Bool
  curves : PerCurve (List CurveEntry)
  image : StoreData
  unstored : Unstored

/-- The part of the blocks' state that only a command itself changes. -/
def Control.held (k : Control) : Held where
  breakers := .ofFn fun b => (k.breaker b).held
  formed := k.tiu.formed
  hold := k.tsq.hold
  startUpDelay := k.tsq.startUpDelay
  startUpEnded := k.tsq.startUpEnded
  ready := .ofFn fun n => (k.slot n).ready
  bias := k.gsc.bias
  buffer := k.pru.buffer
  cpi := k.cpi
  common := k.sst.working.common
  groups := k.sst.working.groups
  active := k.sst.working.active
  outOfService := k.sst.working.outOfService
  curves := k.sst.working.curves
  image := k.sst.image
  unstored := k.sst.unstored

/-! ## Requests -/

/-- The port and the access class of a request (R163, and the request catalogue of section 9.3). -/
def requestOf : Instr → Option (Port × RequestClass)
  | .readRecord p _ _ _ | .status p | .eventRead p _ => some (p, .read)
  | .takeover p | .release p | .liveness p => some (p, .role)
  | .hold p | .releaseHold p | .step p _ | .service p _ _ => some (p, .panel)
  | .operateClose p _ | .operateOpen p _ | .resetBreaker p _ | .resetLockout p _ | .transfer p _ _ _
  | .cancelTransfer p _ | .start p _ | .stop p _ | .resetSlot p _ | .biasSet p _ _ | .shed p _ | .restore p _
  | .block p _ | .unblock p _ | .groupSelect p _ | .sequenceReset p | .ackAttention p => some (p, .operate)
  | .window p _ | .settingRead p _ _ | .settingWrite p _ _ _ | .curveBegin p _ | .curveEntry p _ _ => some (p, .setting)
  | _ => none

/-- The payload length each request code requires (Table 11-1); no other code is a request. -/
def requestLength (code : Nat) : Option Nat :=
  if code ∈ [2, 16, 17, 18, 32, 33, 61, 62] then some 0
  else if code ∈ [3, 34, 48, 49, 50, 51, 53, 56, 57, 58, 59, 60, 64, 67] then some 1
  else if code ∈ [35, 54, 65] then some 2
  else if code ∈ [1, 52, 55] then some 3
  else if code ∈ [66, 68] then some 6
  else none

/-- Whether a request is admitted to its owner (R163). -/
def State.admits (s : State) (p : Port) (c : RequestClass) : Prop := admissionRefusal (s.asked p) p c = none

/-- Of a list of checks taken in order, each given as "it fails" with its reason, the reason of the first that fails. -/
def firstFailing {α : Type} : List (Bool × α) → Option α
  | [] => none
  | (fails, r) :: rest => if fails then some r else firstFailing rest

/-- Two nodes that a possibly-closed breaker joins (R65, R66): it is in service, and observed other than OPEN or with a
CLOSE in flight. -/
def Linked (k : Control) (c d : Channel) : Prop :=
  ∃ b, breakerX b = some c ∧ breakerR b = d ∧ k.outOfService b = false ∧
    ((k.breaker b).observed ≠ .opened ∨ ∃ op, (k.breaker b).op = some op ∧ op.kind = .close)

/-- Two nodes joined by a chain of possibly-closed breakers (R66). -/
inductive Joined (k : Control) (c : Channel) : Channel → Prop where
  | here : Joined k c c
  | next {d e : Channel} (chain : Joined k c d) (link : Linked k d e ∨ Linked k e d) : Joined k c e

/-- Whether a command acts while reset is asserted: the reset commands, and the inputs the part keeps the level of. -/
def actsInReset : Instr → Bool
  | .resetInputAsserted | .deviceReset _ | .contactCombinationChange _ _ _ | .readyChange _ _ | .keyInputChange _ _ =>
    true
  | _ => false

/-! ## Sound states -/

/-- The role table is sound (R166, R167, R168, R173): at most one of CP-A and CP-B is ACTIVE, CP-P has no role, and no
lapse timer runs for a port that is not ACTIVE. -/
def Control.RolesSound (k : Control) : Prop :=
  ¬((k.port .cpA).role = .active ∧ (k.port .cpB).role = .active) ∧ (k.port .cpP).role = .standby ∧
    ∀ p, (k.port p).role ≠ .active → (k.port p).lapse = .off

/-- The coils of a breaker are sound (R45): the close coil is asserted just while a CLOSE is in flight, and the trip coil
just while an OPEN or TRIP is; so the two are never asserted together. -/
def BreakerRec.CoilsSound (r : BreakerRec) : Prop :=
  match r.op with
  | none => r.closeCoil = false ∧ r.tripCoil = false
  | some op => match op.kind with
    | .close => r.closeCoil = true ∧ r.tripCoil = false
    | .opening | .trip => r.closeCoil = false ∧ r.tripCoil = true

/-- The coils of every breaker are sound. -/
def Control.CoilsSound (k : Control) : Prop := ∀ b, (k.breaker b).CoilsSound

/-- Sequence numbers that follow one another, the last of them one below `next` (R179). -/
def consecutive (next : Word16) : List Event → Prop
  | [] => True
  | x :: l => x.seq = next - BitVec.ofNat 16 (l.length + 1) ∧ consecutive next l

/-- The event queue is sound (R171, R179): it holds at most 128 records with consecutive sequence numbers, and every
cursor names a record held or the number after the newest. -/
def Erq.Sound (q : Erq) : Prop :=
  q.events.length ≤ 128 ∧ consecutive q.nextSeq q.events ∧
    ∀ p, (q.nextSeq - q.cursors.get p).toNat ≤ q.events.length

/-- The accumulators of the protection elements lie within their bounds (R145 to R152). -/
def ProtectionRec.Bounded (r : ProtectionRec) : Prop :=
  r.bucket ≤ bucketFull ∧ r.instCount ≤ 2 ∧ r.reverse ≤ 30000 ∧ r.m16 ≤ 65535

/-- The accumulators of every breaker lie within their bounds. -/
def Control.ElementsBounded (k : Control) : Prop := ∀ b, (k.prot b).Bounded

end Sys2Proof.Machine
end

