-- ==== Sys2Proof/WellFormed.lean ====
section
/-! DEFINITION. Which terms of `Instr` stand for something that can reach the part. -/

namespace Sys2Proof

open Sys2Proof.Machine

/-- Whether the bytes of a window end short of the request's checksum byte (R161). -/
def endsShort (bytes : List Byte) : Bool :=
  match requestEnd bytes with
  | none => true
  | some n => bytes.length < n

/-- A command is well-formed when it can arrive. Payload bytes of any value can; so two commands are limited: a partial
byte has fewer than eight bits (R2), and a window that ended without a request ended short of its checksum (R161). -/
def Instr.wellFormed : Instr → Bool
  | .measurementFrame _ extraBits => extraBits < 8
  | .windowEnded _ bytes => endsShort bytes
  | .frameWatchdogExpiry | .zeroCrossingRise _ | .pulseDiscarded _ | .qualifiedEdge _ | .lastEdgeTimerExpiry _
  | .lossDelayExpiry _ | .returnStableExpiry _ | .attemptDeadline _ | .contactCombinationChange _ _ _
  | .contactSettle _ | .operationDeadline _ | .claimLapse _ | .overlapExpiry _ | .reserveTimerExpiry _
  | .deadTimeExpiry _ | .generatorWaitExpiry _ | .arrivalLimitExpiry _ | .gbLossTimerExpiry | .startUpDelayEnd
  | .readyChange _ _ | .startTimerExpiry _ | .syncWaitExpiry _ | .rampStepExpiry _ | .unloadLimitExpiry _
  | .cooldownExpiry _ | .biasPeriodStart | .overloadTimerExpiry | .underfrequencyTimerExpiry _ | .restoreIntervalEnd
  | .failureTimerExpiry _ | .nonvolatileWriteCompletion _ | .resetInputAsserted | .deviceReset _
  | .keyInputChange _ _ | .keyChangeEffect _ | .livenessLapse _ | .badRequest _ | .readRecord _ _ _ _ | .status _
  | .eventRead _ _ | .takeover _ | .release _ | .liveness _ | .hold _ | .releaseHold _ | .step _ _ | .service _ _ _
  | .operateClose _ _ | .operateOpen _ _ | .resetBreaker _ _ | .resetLockout _ _ | .transfer _ _ _ _
  | .cancelTransfer _ _ | .start _ _ | .stop _ _ | .resetSlot _ _ | .biasSet _ _ _ | .shed _ _ | .restore _ _
  | .block _ _ | .unblock _ _ | .groupSelect _ _ | .sequenceReset _ | .ackAttention _ | .window _ _
  | .settingRead _ _ _ | .settingWrite _ _ _ _ | .curveBegin _ _ | .curveEntry _ _ _ | .badCheck _
  | .biasHighTimeEnd _ => true

end Sys2Proof
end

