-- ==== Sys2Proof/Certificates/Slice0/Obligations.lean ====
section
/-! DEFINITION. The statements about the model, one `Prop` each, in the order of the manual's chapters after the step
itself, the ports' requests and device reset. `s.blocks` are the blocks as a command finds them, `s.asked p` the same with
the lapse timer of an ACTIVE requester reloaded (R168), and `s.settled k` the state when everything the blocks `k` have
told one another has been taken up. -/

open Sys2Proof Sys2Proof.Machine

/-! ## The step -/

/-- A step runs the command at the front of the queue on the state with the rest of the queue. -/
def Obligations.StepRunsTheFrontCommand : Prop :=
  ∀ (c : Instr) (rest : List Instr) (s : State), s.pending = c :: rest →
    step s = exec c { s with pending := rest }

/-- Every command completes, in every state, and leaves the queue of waiting commands as it is. -/
def Obligations.EveryCommandLeavesTheQueue : Prop :=
  ∀ (c : Instr) (s : State), ∃ t, exec c s = .next t ∧ t.pending = s.pending

/-- With no command waiting, a step is one tick of the 10 MHz reference (the model's choice, assumption 1): the timebase
counts it, the millisecond counter counts every ten-thousandth, no block changes, and the expiry commands of the timers
that have run out join the queue. While reset is asserted nothing counts. -/
def Obligations.IdleStepIsOneTick : Prop :=
  ∀ s : State, s.pending = [] →
    (s.inReset = true → step s = .next s) ∧
    (s.inReset = false → ∃ t, step s = .next t ∧ t.inReset = false ∧ t.control = s.control ∧
      t.sensed.mlr = s.sensed.mlr ∧ t.sensed.pcu = s.sensed.pcu ∧
      t.sensed.clock.timebase = s.sensed.clock.timebase + 1 ∧
      (s.sensed.clock.subMs < 9999 →
        t.sensed.clock.subMs = s.sensed.clock.subMs + 1 ∧ t.sensed.clock.ms = s.sensed.clock.ms) ∧
      (s.sensed.clock.subMs = 9999 → t.sensed.clock.subMs = 0 ∧ t.sensed.clock.ms = s.sensed.clock.ms + 1) ∧
      t.pending = dueCommands t.sensed s.control)

/-- A deadline formed as start plus length, modulo 2^32, is reached just when the counter has advanced by the length, as
long as neither comes to 2^31 (R180). The time left is then what remains of the length, and 0 once the deadline is reached
(the model's reading past it, assumption 76). -/
def Obligations.DeadlineIsReachedAfterItsLength : Prop :=
  ∀ (now : Word32) (len passed : Nat), len < 2147483648 → passed < 2147483648 →
    (reached (deadlineAfter now len) (now + BitVec.ofNat 32 passed) = decide (len ≤ passed)) ∧
    timeLeft (deadlineAfter now len) (now + BitVec.ofNat 32 passed) = len - passed

/-! ## Requests -/

/-- The table of R163: which class is admitted from which port, and the reason of each refusal; and the authority
holder, from whom alone OPERATE requests are admitted. Remote settings are not permitted by default. -/
def Obligations.RequestsAreAdmittedByClass : Prop :=
  ∀ (k : Control) (p : Port),
    let localKey := k.cpi.keys.localKey.level
    let settingsKey := k.cpi.keys.settingsKey.level
    let active : Prop := p ≠ .cpP ∧ (k.port p).role = .active
    admissionRefusal k p .read = none ∧
    (p ≠ .cpP → admissionRefusal k p .role = none) ∧
    (p = .cpP → admissionRefusal k p .role = some .accessClass) ∧
    (p = .cpP → admissionRefusal k p .panel = none) ∧
    (p ≠ .cpP → admissionRefusal k p .panel = some .accessClass) ∧
    (p = .cpP → localKey = true → admissionRefusal k p .operate = none) ∧
    (p = .cpP → localKey = false → admissionRefusal k p .operate = some .authority) ∧
    (p ≠ .cpP → ¬active → admissionRefusal k p .operate = some .authority) ∧
    (active → localKey = true → admissionRefusal k p .operate = some .localControl) ∧
    (active → localKey = false → admissionRefusal k p .operate = none) ∧
    (p = .cpP → settingsKey = true → admissionRefusal k p .setting = none) ∧
    (p = .cpP → settingsKey = false → admissionRefusal k p .setting = some .accessClass) ∧
    (p ≠ .cpP → ¬active → admissionRefusal k p .setting = some .authority) ∧
    (active → k.common.remoteSettings = false → localKey = false →
      admissionRefusal k p .setting = some .accessClass) ∧
    (active → k.common.remoteSettings = false → localKey = true →
      admissionRefusal k p .setting = some .accessClass ∨ admissionRefusal k p .setting = some .localControl) ∧
    (active → k.common.remoteSettings = true → localKey = true →
      admissionRefusal k p .setting = some .localControl) ∧
    (active → k.common.remoteSettings = true → localKey = false → admissionRefusal k p .setting = none) ∧
    (localKey = true → authorityHolder k = some .cpP) ∧
    (k.RolesSound → localKey = false → active → authorityHolder k = some p) ∧
    (localKey = false → (k.port .cpA).role ≠ .active → (k.port .cpB).role ≠ .active → authorityHolder k = none) ∧
    (k.RolesSound → (admissionRefusal k p .operate = none ↔ authorityHolder k = some p)) ∧
    defaultCommon.remoteSettings = false

/-- A request its port is not entitled to is refused with the reason of R163, and nothing else changes but the lapse
timer of an ACTIVE requester (R162, R168). -/
def Obligations.UnentitledRequestIsOnlyRefused : Prop :=
  ∀ (c : Instr) (p : Port) (cl : RequestClass) (r : Reason) (s : State),
    requestOf c = some (p, cl) → s.inReset = false → admissionRefusal (s.asked p) p cl = some r →
    exec c s = .next { s with control := (s.asked p).respond p (refusal r) }

/-- Whatever follows from a request, its port's window holds an answer, the other ports' contexts and the keys stand, and
the port's own context changes in its answer and lapse timer alone, but for TAKEOVER, RELEASE and WINDOW (R161, R162,
R168). -/
def Obligations.RequestIsAnsweredInItsOwnWindow : Prop :=
  ∀ (c : Instr) (p : Port) (cl : RequestClass) (s t : State),
    requestOf c = some (p, cl) → s.inReset = false → exec c s = .next t →
    (∃ r, (t.control.port p).response = some r) ∧ t.control.cpi.keys = s.control.cpi.keys ∧
    (∀ q, q ≠ p → t.control.port q = s.control.port q) ∧
    ((∀ g, c ≠ .window p g) → (t.control.port p).window = (s.control.port p).window) ∧
    (c ≠ .takeover p → c ≠ .release p →
      (t.control.port p).role = (s.control.port p).role ∧
      (t.control.port p).lapse =
        if isActive s.control p then .start s.now s.control.common.lapseTime else (s.control.port p).lapse)

/-- The frame of a request, its checksum included, reads back as that request, with every operand, whatever bytes follow
in the window (R161, R162; Table 11-1). -/
def Obligations.RequestFramesReadBack : Prop :=
  ∀ (c : Instr) (p : Port) (code : Nat) (payload extra : List Byte),
    requestPayload c = some (p, code, payload) → windowCommand p (requestFrame code payload ++ extra) = c

/-- What the bytes of a window make up (R161, R162): nothing if they end short of the request's checksum byte; BAD_CHECK if
the frame's bytes do not sum to 0; BAD_REQUEST if its length is above 60 or is not the one Table 11-1 requires of its code;
and otherwise a request of that port. -/
def Obligations.WindowsAreJudgedInOrder : Prop :=
  ∀ (p : Port) (bytes : List Byte),
    (endsShort bytes = true → windowCommand p bytes = .windowEnded p bytes) ∧
    ∀ (code len : Byte) (rest : List Byte), bytes = code :: len :: rest → len.toNat + 1 ≤ rest.length →
      (checksum (bytes.take (len.toNat + 3)) ≠ 0 → windowCommand p bytes = .badCheck p) ∧
      (checksum (bytes.take (len.toNat + 3)) = 0 →
        (60 < len.toNat ∨ requestLength code.toNat ≠ some len.toNat → windowCommand p bytes = .badRequest p) ∧
        (requestLength code.toNat = some len.toNat → ∃ cl, requestOf (windowCommand p bytes) = some (p, cl)))

/-- BAD_CHECK and BAD_REQUEST are answered so, without payload, and a window that ended short is not answered (its port
then keeps no answer, assumption 46); none has any other effect, and none reloads a lapse timer (R161, R162, R168). -/
def Obligations.FaultyWindowsChangeOnlyTheirAnswer : Prop :=
  ∀ (p : Port) (bytes : List Byte) (s : State), s.inReset = false →
    exec (.badCheck p) s = .next { s with control := s.blocks.respond p ⟨.badCheck, .bytes []⟩ } ∧
    exec (.badRequest p) s = .next { s with control := s.blocks.respond p ⟨.badRequest, .bytes []⟩ } ∧
    exec (.windowEnded p bytes) s =
      .next { s with control := s.blocks.modPort p fun x =>
        { x with response := none, assembly := [], discarding := false } }

/-- READ-class requests but EVENT_READ, and SETTING_READ, change nothing but the answer; STATUS and LIVENESS answer DONE
with the contents R165 and R167 list (their bytes are free, assumption 10). READ_RECORD reads every record with the
requester's window assembly at its whole request (the model's choice of what R173's assembly state is, assumption 52). -/
def Obligations.ReadingChangesOnlyTheAnswer : Prop :=
  ∀ (p : Port) (table first count code index : Byte) (s : State), s.inReset = false →
    let k := s.asked p
    exec (.readRecord p table first count) s =
      .next { s with control := k.respond p (readRecords s.sensed
        (k.modPort p fun c => { c with assembly := requestFrame 1 [table, first, count] })
        table.toNat first.toNat count.toNat) } ∧
    exec (.status p) s = .next { s with control := k.respond p ⟨.done, .status (statusInfo s.sensed k p)⟩ } ∧
    (p ≠ .cpP → exec (.liveness p) s =
      .next { s with control := k.respond p ⟨.done, .liveness (k.port .cpA).role (k.port .cpB).role
        (if (k.port p).role = .active then some k.common.lapseTime else none)⟩ }) ∧
    (s.admits p .setting → exec (.settingRead p code index) s =
      .next { s with control := k.respond p (match itemNamed k p code index with
        | some r => settingAnswer k r
        | none => refusal .range) })

/-! ## Device reset -/

/-- What DEVICE_RESET leaves in MLR (R6), PCU (R14), SMN (R23), SYE (R24), BCU (R64), TIU (R68), TSQ (R82), GSC (R127),
LDM (R142), PRU (R160), CPI (R173) and ERQ (R178, R180). The first settle of every breaker is due the loaded settle time
after the release, when the millisecond counter is 0 (R64, R180). A transfer record's close started is no, and no port keeps an
answer, by the model's choice (assumption 51); contacts and READY keep their levels (assumption 8). Whether a window is
open at a port at that moment is a free value (assumption 64); such a window is discarded to its end. -/
def Obligations.DeviceResetLeavesEveryBlock : Prop :=
  ∀ (intact : Bool) (s : State), ∃ t, exec (.deviceReset intact) s = .next t ∧ t.inReset = false ∧
    t.pending = s.pending ∧
    t.sensed.clock.timebase = 0 ∧ t.sensed.clock.ms = 0 ∧
    t.sensed.mlr.fresh = false ∧ t.sensed.mlr.runCount = 0 ∧ t.sensed.mlr.lastSeq = none ∧
    t.sensed.mlr.watchdog = .off ∧ t.sensed.mlr.firstFresh = false ∧
    (∀ c, t.sensed.mlr.image.volt.get c = 0) ∧ (∀ b, t.sensed.mlr.image.curr.get b = 0) ∧
    (∀ n, t.sensed.mlr.image.power.get n = 0) ∧
    (∀ c, t.sensed.pcu.get c =
      { cLast := 0, cPrev := 0, period := 0, freq := 0, state := .noSignal, good := 0, cycles := 0, early := false,
        lastEdge := none, qual := none }) ∧
    (∀ u, t.control.smn.health.get u = { state := .unknown, timer := .off, reason := .none, lastChange := 0 }) ∧
    t.control.smn.gbAvailable = false ∧
    (∀ n, t.control.attempt n = none) ∧ t.control.sye.order = [] ∧
    (∀ b, t.control.breaker b =
      { closedMade := (s.control.breaker b).closedMade, openMade := (s.control.breaker b).openMade,
        settle := .running (BitVec.ofNat 32 t.control.common.settleTime), settled := false, observed := .travel, commanded := .opened, op := none,
        closeBlocked := false, openFailed := false, holder := none, opCount := 0, lastCause := .none,
        closeCoil := false, tripCoil := false }) ∧
    t.control.tiu.formed = false ∧ (∀ l, t.control.tiu.supply.get l = .dead) ∧ t.control.tiu.overlaps = [] ∧
    (∀ c, t.control.claim c = { holder := none, waiting := [] }) ∧
    (∀ l, (t.control.xfer l).inProgress = false ∧ (t.control.xfer l).stage = none ∧
      (t.control.xfer l).result = .none ∧ (t.control.xfer l).recoverArmed = false ∧
      (t.control.xfer l).stepPending = false ∧ (t.control.xfer l).timer = .off ∧ (t.control.xfer l).retiring = none ∧
      (t.control.xfer l).arriving = none ∧ (t.control.xfer l).attempt = none ∧ (t.control.xfer l).closeStarted = false ∧
      ∀ f, (t.control.xfer l).preShedMask.get f = false) ∧
    t.control.tsq.gbLost = false ∧ t.control.tsq.hold = false ∧ t.control.tsq.required = 0 ∧ t.control.tsq.gbLossTimer = .off ∧
    t.control.tsq.startUpDelay = .off ∧ t.control.tsq.startUpEnded = false ∧
    (∀ n, (t.control.slot n).state = restState t.control n ∧ (t.control.slot n).demand = .none ∧
      (t.control.slot n).barred = false ∧ (t.control.slot n).fault = none ∧ (t.control.slot n).attempt = none ∧
      (t.control.slot n).ready = (s.control.slot n).ready ∧ (t.control.slot n).setPoint = 500 ∧
      (t.control.slot n).duty = 500 ∧ (t.control.slot n).deferredStop = false ∧ (t.control.slot n).timer = .off ∧
      (t.control.slot n).ramp = .off) ∧
    t.control.gsc.required = 0 ∧ t.control.ldm.pacingStopped = false ∧
    (∀ f, (t.control.blockRec f).state = .openOther ∧ (t.control.blockRec f).restoreRequested = false ∧
      (t.control.blockRec f).lastShed = .none) ∧
    t.control.ldm.shedList = [] ∧ t.control.ldm.restoreTimer = .off ∧ t.control.ldm.overload = .off ∧
    (∀ st, t.control.ldm.uf.get st = .off) ∧
    (∀ b, t.control.prot b =
      { bucket := 0, operated := false, instCount := 0, reverse := 0, failure := .off, backupWatch := false,
        m16 := 0 }) ∧
    t.control.pru.buffer.owner = none ∧ t.control.pru.buffer.entries = [] ∧
    (∀ p, t.control.port p =
      { role := .standby, lapse := .off, window := .n0, assembly := [], discarding := s.windowsAtRelease.get p,
        response := none }) ∧
    (∀ key, (t.control.cpi.keys.get key).level = false) ∧
    (∀ p, t.control.erq.cursors.get p = 0 ∧ attention t.inReset t.control p = true) ∧
    t.control.erq.events.head? =
      some { seq := 0, time := 0, kind := .deviceReset, subject := .none, cause := .none, value := 0 }

/-- What DEVICE_RESET loads (R178): a valid stored image with every value stored and no write in flight; or the defaults
with the default curve tables (R148), auto-transfer off on both buses, every value unstored, STORE_DEFAULTED directly after
DEVICE_RESET, and the write of the default image in flight. -/
def Obligations.DeviceResetLoadsTheStore : Prop :=
  let thresholds : List Nat := [16, 20, 24, 32, 40, 48, 64, 80, 96, 128, 160, 192, 240, 320, 480, 640]
  let tripTimes : CurveNo → List Nat
    | .c0 => List.replicate 16 1000
    | .c1 => [30000, 12000, 7000, 4000, 2800, 2000, 1500, 1200, 1000, 850, 750, 700, 650, 600, 560, 540]
    | .c2 => [60000, 20000, 10000, 4500, 2600, 1800, 1000, 660, 480, 300, 220, 170, 130, 100, 80, 70]
    | .c3 => [120000, 40000, 16000, 6000, 3000, 1800, 800, 450, 300, 160, 100, 70, 50, 40, 30, 25]
  ∀ (s : State),
    (∃ t, exec (.deviceReset true) s = .next t ∧ t.control.sst.working = s.control.sst.image ∧
      t.control.sst.image = s.control.sst.image ∧ t.control.sst.write = none ∧
      t.control.sst.pendingLockouts = [] ∧ (∀ r, t.control.sst.unstored.has r = false) ∧
      t.control.erq.events.length = 1 ∧ t.control.erq.nextSeq = 1) ∧
    (∃ t w, exec (.deviceReset false) s = .next t ∧ t.control.sst.write = some w ∧ w.kind = .defaults ∧
      w.data = t.control.sst.working ∧ t.control.sst.pendingLockouts = [] ∧
      (∀ l, t.control.common.autoTransfer.get l = false) ∧
      t.control.common = { defaultCommon with autoTransfer := t.control.common.autoTransfer } ∧
      (∀ g, t.control.sst.working.groups.get g = defaultGroup) ∧ t.control.sst.working.active = .n0 ∧
      (∀ c, (t.control.sst.working.curves.get c).map (fun x => x.threshold) = thresholds ∧
        (t.control.sst.working.curves.get c).map (fun x => x.rate) = (tripTimes c).map (fun ms => 16777216 / ms)) ∧
      (∀ b, t.control.outOfService b = false ∧ t.control.lockout b = ⟨false, .none⟩) ∧
      (∀ r, t.control.sst.unstored.has r = true) ∧ t.control.erq.nextSeq = 2 ∧
      t.control.erq.events.map (fun x => x.kind) = [.deviceReset, .storeDefaulted])

/-- While the reset input is asserted every coil, upstream-trip and attention output is released and every bias output is
low, the queue is empty, no write runs, and the stored image stands (R64, R127, R160, R173, R178, R180); and no command but
the reset commands and the changes of input levels has an effect (the model's reading, assumption 26). -/
def Obligations.ResetAssertionReleasesTheOutputs : Prop :=
  ∀ (s : State),
    (∃ t, exec .resetInputAsserted s = .next t ∧ t.inReset = true ∧ t.pending = s.pending ∧
      (∀ b, (t.control.breaker b).closeCoil = false ∧ (t.control.breaker b).tripCoil = false ∧
        (t.control.breaker b).op = none) ∧
      (∀ u, upstreamTrip t.inReset t.control u = false) ∧ (∀ p, attention t.inReset t.control p = false) ∧
      (∀ n, t.control.gsc.bias.high.get n = false ∧ startDemand t.control n = false) ∧
      t.control.erq.events = [] ∧ t.control.sst.write = none ∧ t.control.sst.image = s.control.sst.image) ∧
    ∀ c, s.inReset = true → actsInReset c = false → exec c s = .next s

/-! ## Measurement -/

/-- A frame that fails a check of R2 changes nothing at all; after device reset no frame fails the third. An accepted one is
74 whole bytes that sum to 0, with a new sequence number; MLR then holds the frame's image and sequence number, the watchdog
runs to 12 ms from now, and the run count and staleness move as R5 states; nothing else of the measured side changes. At the
first change to FRESH the start-up delay of 2 s starts (R181). -/
def Obligations.FramesAreJudgedAndTaken : Prop :=
  State.reset.sensed.mlr.lastSeq = none ∧
  (∀ (bytes : List Byte) (extraBits : Nat) (s : State),
    (bytes.length ≠ 74 ∨ extraBits ≠ 0 ∨ checksum bytes ≠ 0 ∨ s.sensed.mlr.lastSeq = some (bytes.headD 0)) →
    exec (.measurementFrame bytes extraBits) s = .next s) ∧
  ∀ (bytes : List Byte) (s : State), s.inReset = false → bytes.length = 74 → checksum bytes = 0 →
    s.sensed.mlr.lastSeq ≠ some (bytes.headD 0) →
    ∃ t, exec (.measurementFrame bytes 0) s = .next t ∧ t.sensed.clock = s.sensed.clock ∧
      t.sensed.pcu = s.sensed.pcu ∧
      (∀ c, t.sensed.mlr.image.volt.get c = byteAt bytes (1 + 2 * c.index) * 256 + byteAt bytes (2 + 2 * c.index)) ∧
      (∀ b, t.sensed.mlr.image.curr.get b = byteAt bytes (23 + 2 * b.index) * 256 + byteAt bytes (24 + 2 * b.index)) ∧
      (∀ n, t.sensed.mlr.image.power.get n = signedAt bytes (61 + 2 * n.index)) ∧
      t.sensed.mlr.lastSeq = some (bytes.headD 0) ∧ t.sensed.mlr.watchdog = .running (s.now + 12) ∧
      (s.sensed.mlr.fresh = true → t.sensed.mlr.fresh = true ∧ t.sensed.mlr.runCount = s.sensed.mlr.runCount) ∧
      (s.sensed.mlr.fresh = false → s.sensed.mlr.runCount = 0 →
        t.sensed.mlr.fresh = false ∧ t.sensed.mlr.runCount = 1 ∧ t.sensed.mlr.firstFresh = s.sensed.mlr.firstFresh) ∧
      (s.sensed.mlr.fresh = false → s.sensed.mlr.runCount = 1 →
        t.sensed.mlr.fresh = true ∧ t.sensed.mlr.runCount = 2 ∧ t.sensed.mlr.firstFresh = true ∧
        (s.sensed.mlr.firstFresh = false → t.control.tsq.startUpDelay = .running (s.now + 2000)))

/-- The expiry of the frame watchdog makes the image STALE with run count 0 and keeps its values (R4, R5); one that has not
run out does nothing (the model's choice, assumption 2). -/
def Obligations.WatchdogExpiryMakesTheImageStale : Prop :=
  ∀ (s : State), s.inReset = false →
    (s.sensed.mlr.watchdog.due s.now = true → ∃ t, exec .frameWatchdogExpiry s = .next t ∧
      t.sensed = { s.sensed with mlr := { s.sensed.mlr with watchdog := .off, fresh := false, runCount := 0 } } ∧
      t.inReset = s.inReset ∧ t.pending = s.pending ∧
      (s.sensed.mlr.fresh = false → t.control = s.blocks)) ∧
    (s.sensed.mlr.watchdog.due s.now = false → exec .frameWatchdogExpiry s = .next s)

/-- A rise starts a qualification with the capture of now and the Q now in force; a fall before Q has elapsed ends it and
changes no field of the channel record (R8). The expiry of the last-edge timer puts the channel into NO_SIGNAL with good
count 0, and keeps its other fields (R11). -/
def Obligations.QualificationsAndLastEdgesExpire : Prop :=
  ∀ (c : Channel) (s : State), s.inReset = false →
    exec (.zeroCrossingRise c) s = .next { s with
      sensed := { s.sensed with pcu := s.sensed.pcu.set c { s.sensed.pcu.get c with
        qual := some { capture := s.sensed.clock.timebase, length := s.control.common.qualTime * 10 } } }
      control := s.blocks } ∧
    (∀ q, (s.sensed.pcu.get c).qual = some q →
      (s.sensed.clock.timebase - q.capture).toNat < q.length →
      exec (.pulseDiscarded c) s = .next { s with
        sensed := { s.sensed with pcu := s.sensed.pcu.set c { s.sensed.pcu.get c with qual := none } }
        control := s.blocks }) ∧
    ∀ d, (s.sensed.pcu.get c).lastEdge = some d → reached d s.sensed.clock.timebase = true →
      ∃ t, exec (.lastEdgeTimerExpiry c) s = .next t ∧
        t.sensed = { s.sensed with pcu := s.sensed.pcu.set c { s.sensed.pcu.get c with
          state := .noSignal, good := 0, lastEdge := none } }

/-- A qualified edge, judged by R9 to R12: the first after NO_SIGNAL, an early edge, an accepted period or one out of
window; it restarts the last-edge timer (R11), and no other channel and nothing else of the measured side changes. At every
accepted period the frequency is floor(10,000,000,000 / T) and lies between 40,000 and 69,999 mHz. -/
def Obligations.QualifiedEdgeMovesTheChannel : Prop :=
  ∀ (c : Channel) (q : Qualification) (s : State), s.inReset = false → (s.sensed.pcu.get c).qual = some q →
    q.length ≤ (s.sensed.clock.timebase - q.capture).toNat →
    ∃ t r, exec (.qualifiedEdge c) s = .next t ∧
      t.sensed = { s.sensed with pcu := s.sensed.pcu.set c { r with
        lastEdge := some (s.sensed.clock.timebase + 500000), qual := none } } ∧
      let old := s.sensed.pcu.get c
      let delta := (q.capture - old.cLast).toNat
      (old.state = .noSignal → r = { old with cPrev := old.cLast, cLast := q.capture, state := .acquiring, good := 0 }) ∧
      (old.state ≠ .noSignal → delta < 142858 → r = { old with early := true }) ∧
      (old.state ≠ .noSignal → 142858 ≤ delta → delta ≤ 250000 →
        r = { old with
          cPrev := old.cLast, cLast := q.capture, period := delta, freq := 10000000000 / delta,
          cycles := old.cycles + 1, good := min 3 (old.good + 1), early := false,
          state := if 2 ≤ old.good then .tracking else old.state } ∧ 40000 ≤ r.freq ∧ r.freq ≤ 69999) ∧
      (old.state ≠ .noSignal → 250000 < delta →
        r = { old with cPrev := old.cLast, cLast := q.capture, good := 0, state := .acquiring })

/-- The class of a channel, as the first of four tests of R15 that applies decides it. -/
def Obligations.ChannelClassIsDecidedInOrder : Prop :=
  ∀ (e : Sensed) (k : Control) (c : Channel),
    let v := e.mlr.image.volt.get c
    (e.mlr.fresh = false → classOf e k c = .indeterminate) ∧
    (e.mlr.fresh = true → k.common.liveThreshold ≤ v → (e.pcu.get c).state = .tracking → classOf e k c = .live) ∧
    (e.mlr.fresh = true → ¬(k.common.liveThreshold ≤ v ∧ (e.pcu.get c).state = .tracking) →
      (v ≤ k.common.deadThreshold → classOf e k c = .dead) ∧
      (k.common.deadThreshold < v → classOf e k c = .indeterminate))

/-- The moves of a health record by the table of R19. An evaluation on a FRESH image sets the reason if the utility is out
of band, and moves each state by its row; the entry of the channel into NO_SIGNAL, FRESH or STALE, makes any state but
LOST to LOST (with reason NOT_TRACKING, the model's reading, assumption 34); a STALE image lets no other change of the
channel act (R17, R18). Every move records its time and SOURCE_STATE and tells TSQ, and an arrival that leaves the state
changes nothing but the reason (R21). The expiry of a loss delay makes the utility LOST, and that of a return stable time
makes it HEALTHY, without a band test and with the reason kept (the model's choice, assumption 63). -/
def Obligations.HealthMovesByTheTable : Prop :=
  (∀ (e : Sensed) (k : Control) (u : Utility),
    let inBand := (bandFailure e k u).isNone
    let old := k.smn.health.get u
    let put (h : HealthRec) : Control := { k with smn := { k.smn with health := k.smn.health.set u h } }
    let moved (state : Health) (timer : Timer) (reason cause : Cause) (value : Int) : Control :=
      { put { state := state, timer := timer, reason := reason, lastChange := e.now } with
        erq := k.erq.append e.now .sourceState (.utility u) cause value
        notices := k.notices ++ [.healthChanged u] }
    let judged := k.evaluateHealth e u
    (inBand = true →
      (old.state = .unknown → judged = moved .healthy .off old.reason .inBand 1) ∧
      (old.state = .pendingLoss → judged = moved .healthy .off old.reason .inBand 1) ∧
      (old.state = .lost →
        judged = moved .returning (.start e.now (k.group.returnStable * 1000)) old.reason .inBand 4) ∧
      (old.state = .healthy ∨ old.state = .returning → judged = k)) ∧
    (∀ reason, bandFailure e k u = some reason →
      (old.state = .unknown → judged = moved .lost .off reason .outOfBand 3) ∧
      (old.state = .healthy → judged = moved .pendingLoss (.start e.now k.group.lossDelay) reason .outOfBand 2) ∧
      (old.state = .returning → judged = moved .lost .off reason .outOfBand 3) ∧
      (old.state = .pendingLoss ∨ old.state = .lost → judged = put { old with reason := reason })) ∧
    ∀ c, channelUtility c = some u →
      let told := k.handle e (.channelSmn c)
      ((e.pcu.get c).state = .noSignal →
        (old.state ≠ .lost → told = moved .lost .off .notTracking .noSignal 3) ∧
        (old.state = .lost → told = put { old with reason := .notTracking })) ∧
      ((e.pcu.get c).state ≠ .noSignal → told = if e.mlr.fresh then judged else k)) ∧
  ∀ (u : Utility) (s : State), s.inReset = false → ((s.control.smn.health.get u).timer.due s.now = true) →
    let changed (state : Health) (cause : Cause) (value : Int) : State :=
      let h : HealthRec := { s.control.smn.health.get u with state := state, timer := .off, lastChange := s.now }
      s.settled { s.blocks with
        smn := { s.control.smn with health := s.control.smn.health.set u h }
        erq := s.control.erq.append s.now .sourceState (.utility u) cause value
        notices := [.healthChanged u] }
    ((s.control.smn.health.get u).state = .pendingLoss →
      exec (.lossDelayExpiry u) s = .next (changed .lost .delayExpired 3)) ∧
    ((s.control.smn.health.get u).state = .returning →
      exec (.returnStableExpiry u) s = .next (changed .healthy .stableExpired 1))

/-! ## Synchronism -/

/-- The slip, angle and predicted angle of an evaluation (R28 to R30): with Δ the time from R's capture to X's and T the
period of R, the raw lag is floor((Δ mod T)·36000 / T), and θ is its negative below 18,000 and 36,000 less it from there, so
that θ lies in −17,999 to 18,000; θp is θ plus the advance brought into the same range by a whole number of turns, and ΔV is
the absolute difference of the voltages. -/
def Obligations.AnglesLieWithinOneTurn : Prop :=
  ∀ (e : Sensed) (k : Control) (b : Breaker) (x r : Channel), 0 < (e.pcu.get r).period →
    let m := measure e k b x r
    let delta := ((e.pcu.get x).cLast - (e.pcu.get r).cLast).toNat
    let raw := delta % (e.pcu.get r).period * 36000 / (e.pcu.get r).period
    m.slip = (e.pcu.get x).freq - (e.pcu.get r).freq ∧
    (m.angle = none ↔ 2147483648 ≤ delta) ∧
    (∀ theta thetaP, m.angle = some (theta, thetaP) →
      (raw < 18000 → theta = -(raw : Int)) ∧ (18000 ≤ raw → theta = 36000 - (raw : Int)) ∧
      -17999 ≤ theta ∧ theta ≤ 18000 ∧ -17999 ≤ thetaP ∧ thetaP ≤ 18000 ∧
      ∃ turns : Int, thetaP = theta + (m.slip * k.common.closingTime.get b * 36).tdiv 1000 + 36000 * turns) ∧
    m.deltaV = ((e.mlr.image.volt.get x : Int) - e.mlr.image.volt.get r).natAbs

/-- One evaluation of an attempt (R27 to R33). The gates, then the conditions of R31 in their order, give the first failing
condition; without one the in-window count moves to the smaller of count + 1 and the dwell, and at any other it becomes 0.
The values formed past the gates are kept. The close is sent at an evaluation that ends with the count at the dwell, for a
port always, and for an automatic requester outside hold or with its step permission, which is then used; otherwise it is
withheld. The close sent is refused by the checks of R74 or by BCU (CLOSE_FAILED with the reason), or starts
(CLOSE_ISSUED, and the requester is told). -/
def Obligations.InWindowCountMoves : Prop :=
  (∀ (e : Sensed) (k : Control) (a : Attempt) (x r : Channel),
    let a' := (judgeAttempt e k a x r).1
    let m := measure e k a.breaker x r
    let g := k.group
    let tracking : Prop := (e.pcu.get x).state = .tracking ∧ (e.pcu.get r).state = .tracking
    (a'.failing = .none → a'.count = min (a.count + 1) g.dwell) ∧ (a'.failing ≠ .none → a'.count = 0) ∧
    a'.lastCycle = some (e.pcu.get x).cycles ∧
    (e.mlr.fresh = false → a'.failing = .stale) ∧
    (e.mlr.fresh = true → ¬tracking → a'.failing = .notTracking) ∧
    (e.mlr.fresh = false ∨ ¬tracking → a'.lastSlip = a.lastSlip ∧ a'.lastTheta = a.lastTheta ∧
      a'.lastThetaP = a.lastThetaP ∧ a'.lastDeltaV = a.lastDeltaV) ∧
    (e.mlr.fresh = true → tracking →
      a'.lastSlip = some m.slip ∧ a'.lastDeltaV = some m.deltaV ∧
      (m.angle = none → a'.failing = .captureOrder ∧ a'.lastTheta = a.lastTheta ∧ a'.lastThetaP = a.lastThetaP) ∧
      ∀ theta thetaP, m.angle = some (theta, thetaP) → a'.lastTheta = some theta ∧ a'.lastThetaP = some thetaP ∧
        a'.failing = (firstFailing [
          (classOf e k x ≠ .live || classOf e k r ≠ .live || decide (g.ovPickup < e.mlr.image.volt.get x) ||
            decide (g.ovPickup < e.mlr.image.volt.get r), Cause.notLive),
          (decide (g.slipLimit < m.slip.natAbs), .slip),
          (k.common.positiveSlipOnly.get a.breaker && decide (m.slip < 0), .slipSign),
          (decide (g.angleWindow < thetaP.natAbs), .angle),
          (decide (g.voltageDiff < m.deltaV), .voltageDifference)]).getD .none) ∧
    a' = { a with
      lastCycle := a'.lastCycle, failing := a'.failing, count := a'.count, lastSlip := a'.lastSlip,
      lastTheta := a'.lastTheta, lastThetaP := a'.lastThetaP, lastDeltaV := a'.lastDeltaV }) ∧
  ∀ (e : Sensed) (k : Control) (n : AttemptNo) (a : Attempt) (x r : Channel),
    let a' := (judgeAttempt e k a x r).1
    let told : List Notice := match a.requester with
      | .gen s => [.evaluation s (judgeAttempt e k a x r).2 a'.failing a'.count]
      | _ => []
    let judged := (k.setAttempt n a').tell told
    let ready : Prop := a'.failing = .none ∧ a'.count = k.group.dwell ∧
      ((∃ p, a.requester = .port p) ∨ k.tsq.hold = false ∨ a.stepPermission = true)
    let sent := (judged.setAttempt n { a' with stepPermission := a.stepPermission && !k.tsq.hold })
    let issued := sent.sendClose e n { a' with stepPermission := a.stepPermission && !k.tsq.hold }
    (¬ready → k.evaluate e n a x r = judged) ∧
    (ready → k.evaluate e n a x r = issued) ∧
    (∀ why, recheckRefusal k n a = some why → k.sendClose e n a = k.endAttempt e n .closeFailed none (some why)) ∧
    (recheckRefusal k n a = none →
      let out := k.bcuClose e a.breaker a.requester.party (some n)
      (∀ why, out.2 = .refused why → k.sendClose e n a = out.1.endAttempt e n .closeFailed none (some why)) ∧
      (out.2 = .started → k.sendClose e n a =
        (out.1.setAttempt n { a with state := .closeIssued }).tell [.closeIssued n a.requester]))

/-- Attempts are created (R25, R26) and end (R35, R37). A demand on a breaker with an attempt in progress is refused BUSY;
the lowest free slot is taken; in a full list an automatic requester preempts the newest PORT attempt in EVALUATING, which
ends first, and is refused NO_ATTEMPT_SLOT without one, as a port always is. An end: ENDED with its result and without
step permission, out of the creation order, reported to its requester with BCU's report or the issue refusal, recorded as
SYNC_RESULT with the last θp or 0; a port's reservation is released. An EVALUATING attempt whose deadline is reached ends
TIMEOUT, whatever else holds; one that is not EVALUATING is left alone. -/
def Obligations.AttemptEndsInOrder : Prop :=
  (∀ (e : Sensed) (k : Control) (b : Breaker) (q : Requester),
    let full : Prop := ∀ m, ∃ a, k.attempt m = some a ∧ a.state ≠ .ended
    let portOpen (m : AttemptNo) : Prop :=
      ∃ a p, k.attempt m = some a ∧ a.state = .evaluating ∧ a.requester = .port p
    ((attemptOn k b).isSome = true → k.createAttempt e b q = (k, .refused .busy)) ∧
    (attemptOn k b = none →
      (∀ n, (∀ a, k.attempt n = some a → a.state = .ended) →
        (∀ m, m.index < n.index → ∃ a, k.attempt m = some a ∧ a.state ≠ .ended) →
        k.createAttempt e b q = (k.placeAttempt e n b q, .attempt n)) ∧
      (full → (∃ p, q = .port p) ∨ (∀ m, m ∈ k.sye.order → ¬portOpen m) →
        k.createAttempt e b q = (k, .refused .noAttemptSlot)) ∧
      (full → (∀ p, q ≠ .port p) → ∀ older n newer, k.sye.order = older ++ n :: newer → portOpen n →
        (∀ m, m ∈ newer → ¬portOpen m) →
        k.createAttempt e b q = ((k.endAttempt e n .preempted none none).placeAttempt e n b q, .attempt n))) ∧
    ∀ n, let k' := k.placeAttempt e n b q
      k'.attempt n = some {
        breaker := b
        requester := q
        startTime := e.now
        startCycle := match breakerX b with
          | some x => (e.pcu.get x).cycles
          | none => 0
        deadline := e.now + BitVec.ofNat 32 (k.group.syncLimit * 1000)
        count := 0
        lastCycle := none
        lastSlip := none
        lastTheta := none
        lastThetaP := none
        lastDeltaV := none
        failing := .none
        stepPermission := false
        state := .evaluating
        result := none
        issueRefusal := none } ∧
      (∀ m, m ≠ n → k'.attempt m = k.attempt m) ∧ k'.sye.order = k.sye.order ++ [n] ∧ k'.erq = k.erq ∧
      (∀ p, q = .port p → (k'.breaker b).holder = some (.port p (some n))) ∧
      ((∀ p, q ≠ .port p) → k'.bcu = k.bcu)) ∧
  (∀ (e : Sensed) (k : Control) (n : AttemptNo) (a : Attempt) (result : Cause) (fin : Option OpEnd)
    (refused : Option Reason), k.attempt n = some a →
    let k' := k.endAttempt e n result fin refused
    let report : Notice := .attemptEnded {
      number := n, breaker := a.breaker, requester := a.requester, result := result, fin := fin, refusal := refused }
    k'.attempt n = some { a with
      state := .ended, result := some result, stepPermission := false, issueRefusal := refused } ∧
    (∀ m, m ≠ n → k'.attempt m = k.attempt m) ∧ k'.sye.order = k.sye.order.filter (· ≠ n) ∧
    k'.erq = k.erq.append e.now .syncResult (.breaker a.breaker) result (a.lastThetaP.getD 0) ∧
    (∀ p, a.requester = .port p → (k.breaker a.breaker).holder = some (.port p (some n)) →
      (k'.breaker a.breaker).holder = none ∧ k'.notices = k.notices ++ [report, .released a.breaker]) ∧
    ((∀ p, a.requester ≠ .port p) → k'.bcu = k.bcu ∧ k'.notices = k.notices ++ [report])) ∧
  ∀ (n : AttemptNo) (a : Attempt) (s : State), s.inReset = false → s.control.attempt n = some a →
    (a.state = .evaluating → reached a.deadline s.now = true →
      exec (.attemptDeadline n) s = .next (s.settled (s.blocks.endAttempt s.sensed n .timeout none none))) ∧
    (a.state ≠ .evaluating → exec (.attemptDeadline n) s = .next { s with control := s.blocks })

/-! ## Breakers -/

/-- A new contact combination starts the settle time in force; the combination already held changes nothing. A settled
combination becomes the observed state by the table of R43. An operation whose target it is completes: the count rises by
1, up to 65535 (R49). Flags and all other breakers' contacts, flags and counts stand, whatever follows. -/
def Obligations.ContactsAreTimedAndObserved : Prop :=
  ∀ (b : Breaker) (s : State), s.inReset = false →
    let r := s.control.breaker b
    (∀ closedMade openMade,
      (r.closedMade = closedMade ∧ r.openMade = openMade →
        exec (.contactCombinationChange b closedMade openMade) s = .next s) ∧
      (¬(r.closedMade = closedMade ∧ r.openMade = openMade) →
        exec (.contactCombinationChange b closedMade openMade) s = .next { s with
          control := s.blocks.modBreaker b fun r => { r with
            closedMade := closedMade
            openMade := openMade
            settle := .running (s.now + BitVec.ofNat 32 s.control.common.settleTime) } })) ∧
    (r.settle.due s.now = true →
      ∃ t, exec (.contactSettle b) s = .next t ∧ t.sensed = s.sensed ∧
        (t.control.breaker b).settle = .off ∧
        (r.closedMade = false → r.openMade = true → (t.control.breaker b).observed = .opened) ∧
        (r.closedMade = true → r.openMade = false → (t.control.breaker b).observed = .closed) ∧
        (r.closedMade = false → r.openMade = false → (t.control.breaker b).observed = .travel) ∧
        (r.closedMade = true → r.openMade = true → (t.control.breaker b).observed = .invalid) ∧
        (∀ op, r.op = some op → contactState r.closedMade r.openMade = op.kind.target → r.observed ≠ op.kind.target →
          (t.control.breaker b).opCount = if r.opCount < 65535 then r.opCount + 1 else r.opCount) ∧
        (r.op = none → (t.control.breaker b).opCount = r.opCount) ∧
        (t.control.breaker b).closeBlocked = r.closeBlocked ∧ (t.control.breaker b).openFailed = r.openFailed ∧
        (t.control.breaker b).closedMade = r.closedMade ∧ (t.control.breaker b).openMade = r.openMade ∧
        ∀ c, c ≠ b → (t.control.breaker c).held = (s.control.breaker c).held)

/-- An operation not completed at its deadline fails (R50): a CLOSE sets close-blocked, an OPEN or TRIP sets open-failed;
the count, the observed state and every other breaker's flags and counts stand. Before what follows the report, the coil is
released and the operation gone, the commanded state stands, and the result is NO_MOVEMENT from the state that is not the
target, STUCK_TRAVEL or CONTACT_INVALID. A deadline not reached does nothing (the model's choice, assumption 2). -/
def Obligations.OperationFailsAtItsDeadline : Prop :=
  ∀ (b : Breaker) (op : Operation) (s : State), s.inReset = false → (s.control.breaker b).op = some op →
    let r := s.control.breaker b
    (reached op.deadline s.now = false → exec (.operationDeadline b) s = .next { s with control := s.blocks }) ∧
    (reached op.deadline s.now = true →
      exec (.operationDeadline b) s = .next (s.settled (s.blocks.failOperation s.sensed b op)) ∧
      (∃ t, exec (.operationDeadline b) s = .next t ∧ t.sensed = s.sensed ∧
        (op.kind = .close → (t.control.breaker b).held = { r.held with closeBlocked := true }) ∧
        (op.kind ≠ .close → (t.control.breaker b).held = { r.held with openFailed := true }) ∧
        ∀ c, c ≠ b → (t.control.breaker c).held = (s.control.breaker c).held) ∧
      let r' := (s.blocks.failOperation s.sensed b op).breaker b
      r'.op = none ∧ r'.commanded = r.commanded ∧
      (op.kind = .close → r'.closeCoil = false ∧ r'.tripCoil = r.tripCoil) ∧
      (op.kind ≠ .close → r'.tripCoil = false ∧ r'.closeCoil = r.closeCoil) ∧
      (r.observed = .opened → op.kind = .close → failureResult s.sensed s.blocks b op = .noMovement) ∧
      (r.observed = .closed → op.kind ≠ .close → failureResult s.sensed s.blocks b op = .noMovement) ∧
      (r.observed = .travel → failureResult s.sensed s.blocks b op = .stuckTravel) ∧
      (r.observed = .invalid → failureResult s.sensed s.blocks b op = .contactInvalid))

/-- BCU's start checks of a close (R46), in their order: the reason of the first that refuses; an acknowledgement on a
breaker observed CLOSED; and otherwise a CLOSE in flight on a breaker observed OPEN, with its record, its close coil
asserted and its deadline one operate time limit away. A port is answered ACCEPTED at a start and DONE at an
acknowledgement. -/
def Obligations.CloseStartChecksInOrder : Prop :=
  ∀ (e : Sensed) (k : Control) (b : Breaker) (p : Party) (n : Option AttemptNo),
    let r := k.breaker b
    let out := k.bcuClose e b p n
    let serviceAllows : Prop := k.outOfService b = true → p = .port .cpP
    let unlocked : Prop := (k.lockout b).flag = false ∧ r.closeBlocked = false
    let reserved : Prop := (∃ h, r.holder = some h ∧ h.isParty p = false) ∨
      (r.holder = none ∧ ((∃ l, p = .transfer l) ∨ (∃ m, p = .gen m) ∨ p = .load))
    let free : Prop := unlocked ∧ serviceAllows ∧ r.op = none ∧ ¬reserved
    ((k.lockout b).flag = true → out = (k, .refused .lockout)) ∧
    ((k.lockout b).flag = false → r.closeBlocked = true → out = (k, .refused .closeBlocked)) ∧
    (unlocked → ¬serviceAllows → out = (k, .refused .outOfService)) ∧
    (unlocked → serviceAllows → r.op.isSome = true → out = (k, .refused .busy)) ∧
    (unlocked → serviceAllows → r.op = none → reserved → out = (k, .refused .reserved)) ∧
    (free → r.observed = .closed →
      out = (k.modBreaker b fun r => { r with commanded := .closed }, .acknowledged)) ∧
    (free → r.observed = .travel ∨ r.observed = .invalid → out = (k, .refused .busy)) ∧
    (free → r.observed = .opened → out.2 = .started ∧
      (out.1.breaker b).closeCoil = true ∧ (out.1.breaker b).commanded = .closed ∧
      (out.1.breaker b).lastCause = demandCause k b p ∧
      (out.1.breaker b).op = some {
        kind := .close, party := p, cause := demandCause k b p, attempt := n, start := e.now,
        deadline := e.now + BitVec.ofNat 32 (k.common.operateLimit.get b),
        serial := match p with
          | .transfer l => (k.xfer l).serial
          | _ => 0 }) ∧
    demandAnswer .started = ⟨.accepted, .bytes []⟩ ∧ demandAnswer .acknowledged = ⟨.done, .bytes []⟩

/-- A trip is taken whatever the breaker's reservation, lockout, flags and service state (R48, R52 to R54): on a breaker
observed OPEN with no operation in flight it is acknowledged; otherwise an operation towards OPEN that is a TRIP is then in
flight. The last cause is the trip's (R63; an acknowledgement over a TRIP in flight included, assumption 35). -/
def Obligations.TripIsAlwaysTaken : Prop :=
  ∀ (e : Sensed) (k : Control) (b : Breaker) (p : Party) (c : Cause), (k.breaker b).CoilsSound →
    let r := k.breaker b
    let r' := (k.bcuTrip e b p c).breaker b
    r'.lastCause = c ∧ r'.CoilsSound ∧ r'.observed = r.observed ∧
    (r.op = none → r.observed = .opened → r'.op = none ∧ r'.commanded = .opened ∧ r'.tripCoil = false) ∧
    ((∃ op, r.op = some op) ∨ r.observed ≠ .opened →
      ∃ op', r'.op = some op' ∧ op'.kind = .trip ∧ r'.tripCoil = true ∧ r'.closeCoil = false) ∧
    (∀ op, r.op = some op → op.kind = .opening →
      r'.op = some { op with kind := .trip, party := p, cause := c }) ∧
    (∀ op, r.op = some op → op.kind = .trip → r'.op = some op) ∧
    (∀ op, r.op = some op → op.kind = .close → r'.commanded = .opened ∧
      r'.op = some (newOperation e k b .trip p c none))

/-- OPERATE_CLOSE, once admitted (R162, order 4; R68 to R73; R75, R77; R141; R181), in every form: NOT_READY, RANGE, the
refusals of R69 in their order (BUSY for an attempt before RESERVED: the model's reading, assumption 101), an
acknowledgement on a breaker observed CLOSED, SHED_ACTIVE, a test close, a feeder's
close on its bus's class, NOT_READY before the first evaluation, STALE and VOLTAGE_INDETERMINATE, a dead-bus close
(BACKFEED, under the held claim, or a claim request), a dead-dead close by its setting, and a paralleling close, refused
or made an attempt. A refusal other than STALE and VOLTAGE_INDETERMINATE ends the port's unstarted claim for the breaker,
and leaves a request of it that only waits (the model's choice, assumption 66); an acknowledgement leaves both (assumption
65). A claim request is told its position in one payload byte (R75; the form is the model's choice, assumption 89). -/
def Obligations.OperateCloseIsClassified : Prop :=
  ∀ (p : Port) (x : Byte) (s : State), s.inReset = false → s.admits p .operate →
    let k := s.asked p
    let e := s.sensed
    let request : Instr := .operateClose p x
    (e.mlr.firstFresh = false →
      exec request s = .next { s with control := k.respond p ⟨.refused .notReady, .bytes []⟩ }) ∧
    (e.mlr.firstFresh = true → 18 < x.toNat →
      exec request s = .next { s with control := k.respond p ⟨.refused .range, .bytes []⟩ }) ∧
    ∀ b, Breaker.ofIndex x.toNat = some b → e.mlr.firstFresh = true →
      let r := k.breaker b
      let answered (k' : Control) (st : Status) : State := s.settled (k'.respond p ⟨st, .bytes []⟩)
      let refused (why : Reason) : State :=
        let ended := match unstartedClaim k b (.port p) with
          | some c => k.endHolder e c .refused
          | none => k
        answered (if why = .stale ∨ why = .voltageIndeterminate then k else ended) (.refused why)
      let started : State := answered (k.beginClose e b (.port p) none) .accepted
      let held : Bool := match r.holder with
        | some h => !h.isParty (.port p)
        | none => false
      let verdict := firstFailing [
        ((k.lockout b).flag, Reason.lockout), (r.closeBlocked, .closeBlocked),
        (k.outOfService b && p ≠ .cpP, .outOfService), (r.op.isSome, .busy), ((attemptOn k b).isSome, .busy),
        (held, .reserved), (r.observed = .travel || r.observed = .invalid, .busy)]
      let shed (f : Block) : Prop :=
        (k.blockRec f).state ∈ [.opening, .listed, .restoring] ∧ k.tiu.supply.get (blockBus f) = .gen
      (∀ why, verdict = some why → exec request s = .next (refused why)) ∧
      (verdict = none → r.observed = .closed →
        exec request s = .next (answered (k.modBreaker b fun r => { r with commanded := .closed }) .done)) ∧
      (verdict = none → r.observed = .opened →
        (∀ f, breakerBlock b = some f → shed f → exec request s = .next (refused .shedActive)) ∧
        ((∀ f, breakerBlock b = some f → ¬shed f) →
          (k.outOfService b = true → exec request s = .next started) ∧
          (k.outOfService b = false →
            (breakerX b = none →
              (e.mlr.fresh = false → exec request s = .next (refused .stale)) ∧
              (e.mlr.fresh = true → classOf e k (breakerR b) ≠ .live → exec request s = .next (refused .busNotLive)) ∧
              (classOf e k (breakerR b) = .live → exec request s = .next started)) ∧
            ∀ xNode, breakerX b = some xNode →
              let rNode := breakerR b
              let xClass := classOf e k xNode
              let rClass := classOf e k rNode
              (k.tiu.formed = false → exec request s = .next (refused .notReady)) ∧
              (k.tiu.formed = true →
                (e.mlr.fresh = false → exec request s = .next (refused .stale)) ∧
                (e.mlr.fresh = true → xClass = .indeterminate ∨ rClass = .indeterminate →
                  exec request s = .next (refused .voltageIndeterminate)) ∧
                (∀ dead, (xClass = .dead ∧ rClass = .live ∧ dead = xNode) ∨
                    (xClass = .live ∧ rClass = .dead ∧ dead = rNode) →
                  (0 < (nodeSources k dead).size → exec request s = .next (refused .backfeed)) ∧
                  ((nodeSources k dead).size = 0 → ∀ c, channelClaim dead = some c →
                    (holdsClaim k c b (.port p) = true → exec request s = .next started) ∧
                    (holdsClaim k c b (.port p) = false →
                      ∃ k' place, k.requestClaim e c b (.port p) = (k', .claim place) ∧
                        exec request s =
                          .next (s.settled (k'.respond p ⟨.accepted, .bytes [BitVec.ofNat 8 place]⟩))))) ∧
                (xClass = .dead → rClass = .dead →
                  exec request s = .next (if k.common.deadDead.get b then started else refused .deadDead)) ∧
                (xClass = .live → rClass = .live →
                  let merged := (nodeSources k xNode).union (nodeSources k rNode)
                  (1 < merged.size → exec request s = .next (refused .parallelNotPermitted)) ∧
                  (merged.size ≤ 1 →
                    (freeSlot k = none → exec request s = .next (refused .noAttemptSlot)) ∧
                    ∀ n, freeSlot k = some n →
                      exec request s = .next (answered (k.placeAttempt e n b (.port p)) .accepted)))))))

/-- OPERATE_OPEN, once admitted (R47, R52, R53): RANGE for an index above 18; OUT_OF_SERVICE from a supervisor; and
otherwise it is taken whatever the holder, as an acknowledgement on a breaker observed OPEN or over an OPEN or TRIP in
flight (DONE), an OPEN started, or a CLOSE cut (ACCEPTED); each sets the last cause (R63; over an OPEN or TRIP in flight
too, assumption 35). The holder of a reserved breaker is told (R59), and every port whose claim request for the breaker is
cancelled by the open (R78; that such a request can be without its reservation is the model's choice, assumption 88). -/
def Obligations.OperateOpenIsTaken : Prop :=
  ∀ (p : Port) (x : Byte) (s : State), s.inReset = false → s.admits p .operate →
    let k := s.asked p
    (18 < x.toNat →
      exec (.operateOpen p x) s = .next { s with control := k.respond p ⟨.refused .range, .bytes []⟩ }) ∧
    ∀ b, Breaker.ofIndex x.toNat = some b →
      (k.outOfService b = true → p ≠ .cpP →
        exec (.operateOpen p x) s = .next { s with control := k.respond p ⟨.refused .outOfService, .bytes []⟩ }) ∧
      ((k.outOfService b = true → p = .cpP) →
        let held : List Notice := match (k.breaker b).holder with
          | some (.transfer l) => [.operatorOpen b (.transfer l) (some ⟨l, (k.xfer l).serial⟩)]
          | some h => [.operatorOpen b h none]
          | none => []
        let requests (q : Port) : Bool := ClaimBus.all.any fun c => hasClaimRequest k c b (.port q)
        let told : List Notice := held ++ (Port.all.filter fun q => requests q && decide ((k.breaker b).holder ≠
          some (.port q none))).map fun q => .operatorOpen b (.port q none) none
        let c := demandCause k b (.port p)
        ((k.breaker b).op = none → (k.breaker b).observed = .opened →
          exec (.operateOpen p x) s = .next (s.settled (((k.modBreaker b fun r => { r with
            commanded := .opened, lastCause := c }).tell told).respond p ⟨.done, .bytes []⟩))) ∧
        ((k.breaker b).op = none → (k.breaker b).observed ≠ .opened →
          exec (.operateOpen p x) s = .next (s.settled (((k.modBreaker b fun r => { r with
            commanded := .opened
            lastCause := c
            tripCoil := true
            op := some (newOperation s.sensed k b .opening (.port p) c none) }).tell told).respond p
            ⟨.accepted, .bytes []⟩))) ∧
        (∀ op, (k.breaker b).op = some op → op.kind ≠ .close →
          exec (.operateOpen p x) s = .next (s.settled (((k.modBreaker b fun r => { r with
            lastCause := c }).tell told).respond p ⟨.done, .bytes []⟩))) ∧
        (∀ op, (k.breaker b).op = some op → op.kind = .close →
          exec (.operateOpen p x) s = .next (s.settled (((k.cut s.sensed b op .opening (.port p) c).tell told).respond p
            ⟨.accepted, .bytes []⟩))))

/-- RESET_BREAKER clears both flags of one breaker, in every state of it, and changes nothing else (R56). SERVICE by the
table of R61: DONE without effect for a flag that already stands so, which the model judges before the conditions (its
reading, assumption 33); each refusal, in order; and otherwise the flag changes at once, SETTING_CHANGED is recorded with
value 1 or 0, the write of the flag is started, TIU recomputes and the slot or block of the breaker is told; whatever
follows, the flag stands, and the other settings and the stored image are as they were. An index above 18, or a flag other
than 0 and 1, is refused RANGE. -/
def Obligations.BreakerFlagsAreChanged : Prop :=
  (∀ (p : Port) (x : Byte) (s : State), s.inReset = false → s.admits p .operate →
    let k := s.asked p
    (18 < x.toNat →
      exec (.resetBreaker p x) s = .next { s with control := k.respond p ⟨.refused .range, .bytes []⟩ }) ∧
    ∀ b, Breaker.ofIndex x.toNat = some b →
      exec (.resetBreaker p x) s = .next { s with
        control := (k.modBreaker b fun r => { r with closeBlocked := false, openFailed := false }).respond p
          ⟨.done, .bytes []⟩ }) ∧
  (∀ (x flag : Byte) (s : State), s.inReset = false → 18 < x.toNat ∨ 1 < flag.toNat →
    exec (.service .cpP x flag) s = .next { s with
      control := (s.asked .cpP).respond .cpP ⟨.refused .range, .bytes []⟩ }) ∧
  ∀ (x : Byte) (b : Breaker) (set : Bool) (s : State), s.inReset = false → Breaker.ofIndex x.toNat = some b →
    let k := s.asked .cpP
    let request : Instr := .service .cpP x (if set then 1 else 0)
    let answer (r : Status) : State := { s with control := k.respond .cpP ⟨r, .bytes []⟩ }
    let r := k.breaker b
    let flags := k.sst.working.outOfService.set b set
    let changed : Control := { k with
      sst := { k.sst with
        working := { k.sst.working with outOfService := flags }
        write := some {
          kind := .service b
          data := { k.sst.image with outOfService := k.sst.image.outOfService.set b set }
          start := s.now } }
      erq := k.erq.append s.now .settingChanged (.breaker b) .service (if set then 1 else 0) }
    (k.outOfService b = set → exec request s = .next (answer .done)) ∧
    (k.outOfService b ≠ set →
      (r.op.isSome = true → exec request s = .next (answer (.refused .busy))) ∧
      (r.op = none → set = true → r.holder.isSome = true → exec request s = .next (answer (.refused .reserved))) ∧
      (r.op = none → (set = true → r.holder = none) →
        (r.observed ≠ .opened → exec request s = .next (answer (.refused .inconsistent))) ∧
        (r.observed = .opened →
          (k.storeBusy = true → exec request s = .next (answer (.refused .storeBusy))) ∧
          (k.storeBusy = false →
            exec request s = .next (s.settled
              (((changed.recompute s.sensed none).tell [.serviceChanged b]).respond .cpP ⟨.done, .bytes []⟩)) ∧
            ∃ t, exec request s = .next t ∧ (t.control.port .cpP).response = some ⟨.done, .bytes []⟩ ∧
              (∀ c, t.control.outOfService c = if c = b then set else s.control.outOfService c) ∧
              t.control.common = s.control.common ∧ t.control.sst.working.groups = s.control.sst.working.groups ∧
              t.control.sst.working.active = s.control.sst.working.active ∧
              t.control.sst.working.curves = s.control.sst.working.curves ∧
              t.control.sst.image = s.control.sst.image))))

/-- RESET_LOCKOUT by the table of R155: each refusal in order, and otherwise the lockout cleared with its accumulators,
LOCKOUT_RESET recorded with the cause that was cleared, the change handed to the store, and the upstream-trip output of an
incomer released. -/
def Obligations.ResetLockoutByTheTable : Prop :=
  ∀ (p : Port) (x : Byte) (b : Breaker) (s : State), s.inReset = false → s.admits p .operate →
    Breaker.ofIndex x.toNat = some b →
    let k := s.asked p
    let answer (r : Status) : State := { s with control := k.respond p ⟨r, .bytes []⟩ }
    let loaded : Prop := k.group.pickup.get b ≠ 0 ∧ k.group.pickup.get b ≤ s.sensed.mlr.image.curr.get b
    let quiet : Prop := (k.lockout b).flag = true ∧ (k.prot b).failure.active = false ∧ (k.prot b).backupWatch = false
    ((k.lockout b).flag = false → exec (.resetLockout p x) s = .next (answer .done)) ∧
    ((k.lockout b).flag = true → (k.prot b).failure.active = true ∨ (k.prot b).backupWatch = true →
      exec (.resetLockout p x) s = .next (answer (.refused .busy))) ∧
    (quiet → s.sensed.mlr.firstFresh = false → exec (.resetLockout p x) s = .next (answer (.refused .notReady))) ∧
    (quiet → s.sensed.mlr.firstFresh = true → s.sensed.mlr.fresh = false →
      exec (.resetLockout p x) s = .next (answer (.refused .stale))) ∧
    (quiet → s.sensed.mlr.firstFresh = true → s.sensed.mlr.fresh = true →
      (loaded → exec (.resetLockout p x) s = .next (answer (.refused .causePresent))) ∧
      (¬loaded → k.storeBusy = true → exec (.resetLockout p x) s = .next (answer (.refused .storeBusy))) ∧
      (¬loaded → k.storeBusy = false → ∃ t, exec (.resetLockout p x) s = .next t ∧ t.sensed = s.sensed ∧
        (t.control.port p).response = some ⟨.done, .bytes []⟩ ∧ t.control.lockout b = ⟨false, .none⟩ ∧
        (∀ c, c ≠ b → t.control.lockout c = s.control.lockout c ∧ t.control.prot c = s.control.prot c) ∧
        t.control.prot b = { k.prot b with bucket := 0, instCount := 0, reverse := 0, operated := false } ∧
        t.control.erq = s.control.erq.append s.now .lockoutReset (.breaker b) (k.lockout b).cause p.index ∧
        (∃ w, t.control.sst.write = some w ∧ w.kind = .lockout [b] ∧ w.data.lockout.get b = ⟨false, .none⟩) ∧
        (∀ u, upstreamTrip t.inReset t.control u =
          if utilityIncomer u = b then false else upstreamTrip s.inReset s.control u) ∧
        t.control.bcu = s.control.bcu ∧ t.control.gsc = s.control.gsc ∧ t.control.ldm = s.control.ldm))

/-! ## Topology and claims -/

/-- Two nodes are in one group just if a chain of possibly-closed breakers joins them; a breaker is possibly closed when it
is in service and is observed other than OPEN or has a CLOSE in flight; and a group is named by the lowest channel index
among its nodes (R65, R66). The supply state of a bus follows from its group's source set by the table of R67. -/
def Obligations.GroupsAndSupplyStatesAreFormed : Prop :=
  (∀ (k : Control),
    (∀ c d, (groupLabels k).get c = (groupLabels k).get d ↔ Joined k c d) ∧
    (∀ c, (groupLabels k).get c ≤ c.index) ∧
    (∀ c, ∃ d, d.index = (groupLabels k).get c ∧ (groupLabels k).get d = (groupLabels k).get c)) ∧
  (∀ (k : Control) (c : Channel),
    let joined (d : Channel) : Bool := (groupLabels k).get d = (groupLabels k).get c
    nodeSources k c = ⟨joined .u1, joined .u2,
      joined .g1 || joined .g2 || joined .g3 || joined .g4 || joined .g5 || joined .g6⟩) ∧
  ∀ (l : Bus) (s : SourceSet),
    let own := match l with
      | .ba => s.u1
      | .bb => s.u2
    let other := match l with
      | .ba => s.u2
      | .bb => s.u1
    (own = true → other = false → s.gen = false → supplyOf l s = .utility) ∧
    (own = false → other = true → s.gen = false → supplyOf l s = .tie) ∧
    (own = false → other = false → s.gen = true → supplyOf l s = .gen) ∧
    (own = false → other = false → s.gen = false → supplyOf l s = .dead) ∧
    (1 < s.size → supplyOf l s = .parallel)

/-- A claim from its request to its lapse. A demand whose breaker already holds or waits changes nothing; a new request
takes the tail of the waiting list, or its place by breaker index among those that joined at the same instant, which is
one value of the millisecond counter (the model's reading, assumption 20), and a port's takes the reservation (R75); the
answer gives its place in the list, 0 for the holder (the model's choice, assumption 89). The
head is granted while the claim is free, the image FRESH, the bus dead and its group without a source: it becomes the
holder with its lapse deadline one operate time limit and 1000 ms away, CLAIM_GRANTED is recorded, and the party told
(R76). A claim whose holder's close has not started lapses at its deadline: the holder is removed, CLAIM_ENDED recorded
with cause LAPSED, the party told, and the next request granted if it may be (R77, R78). A started close does not lapse.
-/
def Obligations.UnstartedClaimLapses : Prop :=
  (∀ (e : Sensed) (k : Control) (c : ClaimBus) (b : Breaker) (p : Party),
    let cl := k.claim c
    let out := k.requestClaim e c b p
    (∀ h, cl.holder = some h → h.breaker = b → out = (k, .claim 0)) ∧
    (∀ r, r ∈ cl.waiting → r.breaker = b → out.1 = k) ∧
    (∀ before r after, cl.waiting = before ++ r :: after → r.breaker = b → (∀ x, x ∈ before → x.breaker ≠ b) →
      (∀ h, cl.holder = some h → h.breaker ≠ b) → out = (k, .claim (before.length + 1))) ∧
    ((∀ h, cl.holder = some h → h.breaker ≠ b) → (∀ r, r ∈ cl.waiting → r.breaker ≠ b) →
      let reserved := match p with
        | .port q => k.modBreaker b fun r => { r with holder := some (.port q none) }
        | _ => k
      ∃ before after, cl.waiting = before ++ after ∧
        (∀ r, r ∈ before → r.arrival = e.now → r.breaker.index < b.index) ∧
        (∀ r, after.head? = some r → r.arrival = e.now ∧ b.index < r.breaker.index) ∧
        out = ((reserved.setClaim c { cl with
          waiting := before ++ { breaker := b, party := p, arrival := e.now } :: after }).claimOccasion e c,
          .claim (before.length + 1)))) ∧
  (∀ (e : Sensed) (k : Control) (c : ClaimBus) (r : ClaimRequest) (rest : List ClaimRequest),
    (k.claim c).waiting = r :: rest →
    let free : Prop := (k.claim c).holder = none ∧ e.mlr.fresh = true ∧ classOf e k (claimChannel c) = .dead ∧
      nodeSources k (claimChannel c) = ⟨false, false, false⟩
    (free → k.tryGrant e c =
      ({ k with
          tiu := { k.tiu with claims := k.tiu.claims.set c {
            holder := some {
              breaker := r.breaker
              party := r.party
              grant := e.now
              lapse := e.now + BitVec.ofNat 32 (k.common.operateLimit.get r.breaker + 1000)
              started := false }
            waiting := rest } }
          erq := k.erq.append e.now .claimGranted (.bus c) .none r.breaker.index
          notices := k.notices ++ [.claimGranted c r.breaker r.party] })) ∧
    (¬free → k.tryGrant e c = k)) ∧
  ∀ (c : ClaimBus) (h : ClaimHolder) (s : State), s.inReset = false → (s.control.claim c).holder = some h →
    (h.started = false → reached h.lapse s.now = true →
      exec (.claimLapse c) s = .next (s.settled
        (((s.blocks.setClaim c { s.control.claim c with holder := none }).claimLeft s.sensed c h.breaker h.party
          .lapsed).tryGrant s.sensed c))) ∧
    (h.started = true → exec (.claimLapse c) s = .next { s with control := s.blocks })

/-- The expiry of an overlap timer trips the arriving breaker if it is possibly closed, else the mains of the group that
are, else TIE, each as a trip of OVERLAP with cause OVERLAP_EXCEEDED; it records OVERLAP_EXCEEDED with the number of trips,
and the timer is marked expired (R81). -/
def Obligations.OverlapExpiryTrips : Prop :=
  ∀ (node : Channel) (o : OverlapTimer) (s : State), s.inReset = false → s.control.tiu.overlaps = [o] →
    o.group.get node = true → o.expired = false → reached o.deadline s.now = true →
    ∃ targets : List Breaker,
      exec (.overlapExpiry node) s = .next (s.settled
        ((Control.recordNoCause s.sensed
          (forEach targets (fun b k => k.bcuTrip s.sensed b .overlap .overlapExceeded)
            { s.blocks with tiu := { s.control.tiu with overlaps := [{ o with expired := true }] } })
          .overlapExceeded (overlapSubject o.group) targets.length).tell [.overlapExpired o.group])) ∧
      (∀ b, o.arriving = some b → possiblyClosed s.control b = true → targets = [b]) ∧
      ((∀ b, o.arriving = some b → possiblyClosed s.control b = false) →
        (∀ b, b ∈ targets → b = .ma ∨ b = .mb ∨ b = .tie) ∧
        (.ma ∈ targets ↔ possiblyClosed s.control .ma = true ∧ o.group.ba = true) ∧
        (.mb ∈ targets ↔ possiblyClosed s.control .mb = true ∧ o.group.bb = true) ∧
        (.tie ∈ targets ↔ .ma ∉ targets ∧ .mb ∉ targets))

/-! ## Transfers -/

/-- What the end procedure of a transfer leaves (R103): the record with its result, without step, stage and timer, the
fields of its breakers, mode, target, attempt and mask as they were; RECOVER armed on a DEAD bus after a result other than
DONE and CANCELLED, cleared after CANCELLED; its attempt ended CANCELLED, its claim requests and claims gone, its
reservations released, the required capacity formed anew, and TRANSFER_RESULT recorded with the mask before the triggers
of both buses, which are taken up after the rest of the occasion (the model's choice, assumption 100). The other bus's
record stands. -/
def Obligations.TransfersEndByTheProcedure : Prop :=
  ∀ (e : Sensed) (k : Control) (l : Bus) (result : Cause),
    let x := k.xfer l
    let k' := k.endTransfer e l result
    k'.xfer l = { x with
      result := result
      stepPending := false
      inProgress := false
      stage := none
      timer := .off
      needsGen := false
      retry := false
      recoverArmed :=
        if result = .cancelled then false
        else x.recoverArmed || (result ≠ .done && k.tiu.supply.get l = .dead) } ∧
    k'.xfer (otherBus l) = k.xfer (otherBus l) ∧
    (∀ n a, attemptFor k (.transfer l) = some n → k.attempt n = some a →
      k'.attempt n = some { a with
        state := .ended, result := some .cancelled, stepPermission := false, issueRefusal := none }) ∧
    (∀ b, x.arriving = some b ∨ x.retiring = some b → (k'.breaker b).holder ≠ some (.transfer l) ∧
      ∀ c, hasClaimRequest k' c b (.transfer l) = false) ∧
    k'.tsq.required = requiredCapacity k' ∧
    (∃ q, k'.erq = Erq.append q e.now .transferResult (.bus (busClaim l)) result (maskValue x.preShedMask)) ∧
    ∃ told, k'.notices = k.notices ++ told ++ [.triggers]

/-- The stage timers: RESERVE ends RESOURCE_BUSY (R94); the dead time lets DEAD_WAIT be judged (R96), and its timer then
reads absent (the model's choice, assumption 81); the generator wait
limit completes SOURCE_WAIT with capacity online above 0 and else ends NO_SOURCE (R97); the arrival limit ends
ARRIVING_FAILED (R99, R100). The GB loss timer makes GB lost for the triggers (R84). The start-up delay's end arms RECOVER
on every bus that is DEAD and lets the triggers be evaluated from then on (R83, R86). -/
def Obligations.TransferTimersExpire : Prop :=
  ∀ (s : State), s.inReset = false →
    let k := s.blocks
    (∀ l, (k.xfer l).inProgress = true → (k.xfer l).timer.due s.now = true →
      ((k.xfer l).stage = some .reserve →
        exec (.reserveTimerExpiry l) s = .next (s.settled (k.endTransfer s.sensed l .resourceBusy))) ∧
      ((k.xfer l).stage = some .deadWait →
        exec (.deadTimeExpiry l) s =
          .next (s.settled ((k.modXfer l fun x => { x with timer := .off }).tell [.progress l]))) ∧
      ((k.xfer l).stage = some .sourceWait →
        (0 < capacityOnline k →
          exec (.generatorWaitExpiry l) s = .next (s.settled (k.enterStage s.sensed l .preShed))) ∧
        (capacityOnline k = 0 →
          exec (.generatorWaitExpiry l) s = .next (s.settled (k.endTransfer s.sensed l .noSource)))) ∧
      ((k.xfer l).stage = some .syncWait ∨ (k.xfer l).stage = some .closeArriving →
        exec (.arrivalLimitExpiry l) s = .next (s.settled (k.endTransfer s.sensed l .arrivingFailed)))) ∧
    (k.tsq.gbLossTimer.due s.now = true →
      exec .gbLossTimerExpiry s = .next (s.settled
        (({ k with tsq := { k.tsq with gbLossTimer := .off, gbLost := true } } : Control).triggers s.sensed))) ∧
    (k.tsq.startUpDelay.due s.now = true →
      (∃ t, exec .startUpDelayEnd s = .next t ∧
        t.control.tsq.startUpEnded = true ∧ t.control.tsq.startUpDelay = .off) ∧
      exec .startUpDelayEnd s = .next (s.settled ((({ k with
        tsq := { k.tsq with
          startUpDelay := .off
          startUpEnded := true
          records := .ofFn fun l => { k.xfer l with
            recoverArmed := k.tiu.supply.get l = .dead || (k.xfer l).recoverArmed } } } : Control).judgeGbLoss
        s.sensed).triggers s.sensed)))

/-- TRANSFER by the table of R91: the reason of the first check that fails, and otherwise ACCEPTED with the transfer
created with origin REQUEST, AUTO being decided by R88. CANCEL_TRANSFER by the table of R92. -/
def Obligations.TransferRequestsAreJudgedInOrder : Prop :=
  ∀ (p : Port) (x target mode : Byte) (l : Bus) (s : State), s.inReset = false → s.admits p .operate → busOf x = some l →
    let k := s.asked p
    let supply := k.tiu.supply.get l
    let answer (r : Status) : State := { s with control := k.respond p ⟨r, .bytes []⟩ }
    (∀ t m, targetOf target = some t → modeOf mode = some m →
      let b := arrivingFor l t
      let closed : Bool := m = some .closedTransition
      let utilities : Bool := (supply = .utility || supply = .tie) && t ≠ .gen
      let verdict := firstFailing [
        (!s.sensed.mlr.firstFresh, .notReady),
        ((k.xfer l).inProgress, .busy),
        (supply = .parallel || t.supply = supply || (t = .tie && k.tiu.supply.get (otherBus l) ≠ .utility),
          .inconsistent),
        (k.outOfService b, .outOfService),
        ((k.lockout b).flag, .lockout),
        ((k.breaker b).closeBlocked, .closeBlocked),
        (t = .gen && !Slot.all.any (slotUsable k), .inconsistent),
        (closed && supply = .dead, .inconsistent),
        (closed && !(k.common.closedTransition && (!utilities || k.common.utilityParallel)), .parallelNotPermitted),
        (closed && !sourcesLive s.sensed k l t, .voltageIndeterminate)]
      (∀ r, verdict = some r → exec (.transfer p x target mode) s = .next (answer (.refused r))) ∧
      (verdict = none → exec (.transfer p x target mode) s = .next (s.settled
        ((k.createTransfer s.sensed l .request (some t) (m.getD (autoMode s.sensed k l t))).respond p
          ⟨.accepted, .bytes []⟩)))) ∧
    ((k.xfer l).inProgress = false → exec (.cancelTransfer p x) s = .next (answer (.refused .inconsistent))) ∧
    ((k.xfer l).inProgress = true →
      ((k.xfer l).closeStarted = true → exec (.cancelTransfer p x) s = .next (answer (.refused .busy))) ∧
      ((k.xfer l).closeStarted = false →
        exec (.cancelTransfer p x) s =
          .next (s.settled ((k.endTransfer s.sensed l .cancelled).respond p ⟨.done, .bytes []⟩))))

/-- HOLD, RELEASE_HOLD and STEP (R104 to R106, R121, R138): the conditions in their order; a HOLD taken freezes the stage
timers, the ramps and the restore interval and changes nothing else but the record of it; leaving hold withdraws every step
and resumes the stage timers, and what hold withheld follows in the model's order (assumption 23); a STEP of no bus is
refused RANGE, and a taken one makes one step pending and uses it where it can (assumption 22). -/
def Obligations.HoldAndStepAreTaken : Prop :=
  ∀ (s : State), s.inReset = false →
    let k := s.asked .cpP
    let answer (r : Status) : State := { s with control := k.respond .cpP ⟨r, .bytes []⟩ }
    (k.cpi.keys.localKey.level = false → exec (.hold .cpP) s = .next (answer (.refused .accessClass))) ∧
    (k.cpi.keys.localKey.level = true →
      (k.tsq.hold = true → exec (.hold .cpP) s = .next (answer .done)) ∧
      (k.tsq.hold = false → ∃ cause value, exec (.hold .cpP) s = .next { s with
        control := ({ k with
          tsq := { k.tsq with
            hold := true
            records := .ofFn fun l => { k.xfer l with timer := (k.xfer l).timer.suspend s.now } }
          gsc := { k.gsc with slots := .ofFn fun n => { k.slot n with ramp := (k.slot n).ramp.suspend s.now } }
          ldm := { k.ldm with restoreTimer := k.ldm.restoreTimer.suspend s.now }
          erq := k.erq.append s.now .holdEntered (.port .cpP) cause value } : Control).respond .cpP
            ⟨.done, .bytes []⟩ })) ∧
    (k.tsq.hold = false → exec (.releaseHold .cpP) s = .next (answer .done)) ∧
    (k.tsq.hold = true →
      (∃ t, exec (.releaseHold .cpP) s = .next t ∧ t.control.tsq.hold = false) ∧
      ∃ subject value, exec (.releaseHold .cpP) s = .next (s.settled ((({ k with
        tsq := { k.tsq with
          hold := false
          records := .ofFn fun l => { k.xfer l with
            stepPending := false
            timer := (k.xfer l).timer.resume s.now } }
        sye := { k.sye with
          slots := .ofFn fun n => (k.attempt n).map fun a => { a with stepPermission := false } }
        erq := k.erq.append s.now .holdLeft subject .release value } : Control).tell
          [.progress .ba, .progress .bb, .holdEnded]).respond .cpP ⟨.done, .bytes []⟩))) ∧
    (∀ x, busOf x = none → exec (.step .cpP x) s = .next (answer (.refused .range))) ∧
    ∀ (x : Byte) (l : Bus), busOf x = some l →
      (k.tsq.hold = false → exec (.step .cpP x) s = .next (answer (.refused .hold))) ∧
      (k.tsq.hold = true → (k.xfer l).inProgress = false →
        exec (.step .cpP x) s = .next (answer (.refused .inconsistent))) ∧
      (k.tsq.hold = true → (k.xfer l).inProgress = true →
        ((k.xfer l).stepPending = true → exec (.step .cpP x) s = .next (answer .done)) ∧
        ((k.xfer l).stepPending = false → exec (.step .cpP x) s = .next (s.settled
          (((k.modXfer l fun r => { r with stepPending := true }).useStep s.sensed l).respond .cpP
            ⟨.done, .bytes []⟩))))

/-- What a sequence reset leaves before what follows from it (R40, R60, R78, R107, R126, R138): no transfer in progress,
every attempt in progress ended SEQUENCE_RESET, a transfer's too (that the attempts are reached first is the model's
choice, assumption 99), no claim held or waited for, no reservation, no deferred stop, no bar, no attempt of a slot and no
demand by the plan; restore requests cleared, the interval removed and pacing stopped. Of the breaker records nothing but
the holder is touched. A claim whose close has started ends too (assumption 32). That the triggers and the plan are
evaluated after all of this, so that no transfer is in progress then, is the model's choice (assumptions 100, 104). -/
def Obligations.SequenceResetEndsEverything : Prop :=
  ∀ (p : Port) (s : State), s.inReset = false → s.admits p .operate →
    let k := s.asked p
    let k' := (k.sequenceReset s.sensed p).1
    exec (.sequenceReset p) s = .next (s.settled (k'.respond p ⟨.done, .bytes []⟩)) ∧
    (∀ l, (k'.xfer l).inProgress = false) ∧
    (∀ n a, k.attempt n = some a → k'.attempt n = some (if a.state = .ended then a else { a with
      state := .ended, result := some .sequenceReset, stepPermission := false, issueRefusal := none })) ∧
    (∀ n, k.attempt n = none → k'.attempt n = none) ∧
    (∀ c, (k.claim c).waiting.length ≤ 8 → k'.claim c = { holder := none, waiting := [] }) ∧
    (∀ b, k'.breaker b = { k.breaker b with holder := none }) ∧
    (∀ n, (k'.slot n).deferredStop = false ∧ (k'.slot n).barred = false ∧ (k'.slot n).demand ≠ .plan ∧
      (k'.slot n).attempt = none ∧ (k'.slot n).ready = (k.slot n).ready) ∧
    (∀ f, k'.blockRec f = { k.blockRec f with restoreRequested := false }) ∧
    k'.ldm.restoreTimer = .off ∧ k'.ldm.pacingStopped = true ∧ k'.sst = k.sst

/-! ## Generator slots -/

/-- A slot at entry to a state (R108, R109, R114, R118, R119, R121 to R123): the state, its demand source, fault cause,
set point and duty, its timers by the state, and no attempt; every other slot stands. Away from ONLINE, SLOT_STATE is
recorded and TSQ and the plan are told, in the model's order (assumption 4); into ONLINE the rating joins the capacity
online and the reservation goes, and out of ONLINE the rating leaves it. -/
def Obligations.SlotsEnterStates : Prop :=
  ∀ (e : Sensed) (k : Control) (n : Slot) (state : SlotState) (cause : Cause),
    let r := k.slot n
    let k' := k.setSlotState e n state cause
    let r' := k'.slot n
    r'.state = state ∧ r'.attempt = none ∧ r'.ready = r.ready ∧ r'.barred = r.barred ∧
    r'.demand = (if state = .standby ∨ state = .unavailable ∨ state = .failed then .none else r.demand) ∧
    r'.fault = (if state = .failed then some cause else r.fault) ∧
    r'.setPoint = (if state = .online then 500 else r.setPoint) ∧
    r'.duty = (if k.tsq.hold = true ∨ state = .unloading then r.duty
      else if state = .online then clampDuty k 500 else 500) ∧
    (state = .starting → r'.timer = .running (e.now + BitVec.ofNat 32 (k.common.startTime * 1000))) ∧
    (state = .synchronizing → r'.timer = .running (e.now + BitVec.ofNat 32 (k.group.syncLimit * 1000))) ∧
    (state = .unloading → r'.timer = .running (e.now + BitVec.ofNat 32 (k.common.unloadLimit * 1000)) ∧
      r'.ramp = if k.tsq.hold then .held 100 else .running (e.now + 100)) ∧
    (state = .cooldown → r'.timer = .running (e.now + BitVec.ofNat 32 (k.common.cooldownTime * 1000))) ∧
    (state ∉ [.starting, .synchronizing, .unloading, .cooldown] → r'.timer = .off) ∧
    (state ≠ .unloading → r'.ramp = .off) ∧
    (∀ m, m ≠ n → k'.slot m = k.slot m) ∧
    (r.state ≠ .online → state ≠ .online →
      k'.erq = k.erq.append e.now .slotState (.slot n) cause state.number ∧
      k'.notices = k.notices ++ [.slotChanged, .planEvaluation]) ∧
    (r.state ≠ .online → state = .online →
      capacityOnline k' = capacityOnline k + k.common.rating.get n ∧
      (k'.breaker (slotBreaker n)).holder ≠ some (.gen n)) ∧
    (r.state = .online → state ≠ .online → capacityOnline k' + k.common.rating.get n = capacityOnline k)

/-- The slot timers and READY. The start timer and the sync wait fail the slot (R114, R118); each ramp step lowers the
duty, not below Dmin (R121); at the unload limit the OPEN of Gn is demanded (R121); the cooldown ends in STANDBY, or
UNAVAILABLE by R110 (R122). A READY that falls does nothing in a slot at rest, starting or cooling; it fails a slot that
awaits its bus (R115), and one in CLOSING or SYNCHRONIZING whose own close is not in flight; with it in flight the attempt
and the claim are cancelled and the OPEN of Gn demanded first (R117), as it is of one ONLINE (R119) and of one in
UNLOADING, where it has not been demanded yet (R121). One that rises in STARTING with Gn live takes the slot on (R114). -/
def Obligations.SlotTimersAndReadyAreTaken : Prop :=
  ∀ (n : Slot) (s : State), s.inReset = false →
    let k := s.blocks
    let r := k.slot n
    (r.timer.due s.now = true →
      (r.state = .starting →
        exec (.startTimerExpiry n) s = .next (s.settled (k.failSlot s.sensed n .startTimeout))) ∧
      (r.state = .synchronizing →
        exec (.syncWaitExpiry n) s = .next (s.settled (k.failSlot s.sensed n .syncTimeout))) ∧
      (r.state = .unloading →
        exec (.unloadLimitExpiry n) s = .next (s.settled
          ((k.modSlot n fun r => { r with unloadTimedOut := true }).demandSlotOpen s.sensed n))) ∧
      (r.state = .cooldown →
        exec (.cooldownExpiry n) s = .next (s.settled (k.setSlotState s.sensed n
          (if k.common.slotEnabled.get n && !k.outOfService (slotBreaker n) then .standby else .unavailable)
          .cooldownExpired)))) ∧
    (r.state = .unloading → r.ramp.due s.now = true →
      exec (.rampStepExpiry n) s = .next { s with
        control := k.modSlot n fun r => { r with
          duty := max k.common.dmin (r.duty - k.common.unloadStep)
          ramp := .running (s.now + 100) } }) ∧
    ∀ level,
      let k1 := k.modSlot n fun r => { r with ready := level }
      (level = r.ready → exec (.readyChange n level) s = .next s) ∧
      (level ≠ r.ready → ∃ t, exec (.readyChange n level) s = .next t ∧
        ∀ m, (t.control.slot m).ready = if m = n then level else (s.control.slot m).ready) ∧
      (level = false → r.ready = true →
        (r.state ∈ [.unavailable, .standby, .starting, .cooldown, .failed] →
          exec (.readyChange n level) s = .next { s with control := k1 }) ∧
        (r.state = .awaitingBus →
          exec (.readyChange n level) s = .next (s.settled (k1.failSlot s.sensed n .readyLost))) ∧
        (r.state = .online →
          exec (.readyChange n level) s = .next (s.settled
            ((k1.bcuOpen s.sensed (slotBreaker n) (.gen n)).1.failSlot s.sensed n .readyLost))) ∧
        (r.state = .unloading →
          exec (.readyChange n level) s = .next (s.settled
            ((if r.openDemanded then k1 else (k1.bcuOpen s.sensed (slotBreaker n) (.gen n)).1).failSlot s.sensed n
              .readyLost))) ∧
        (r.state = .closing ∨ r.state = .synchronizing →
          (ownCloseInFlight k n = false →
            exec (.readyChange n level) s = .next (s.settled (k1.failSlot s.sensed n .readyLost))) ∧
          (ownCloseInFlight k n = true →
            let cancelled := match attemptFor k1 (.gen n) with
              | some m => k1.endAttempt s.sensed m .cancelled none none
              | none => k1
            let freed := cancelled.endClaims s.sensed (slotBreaker n) (.gen n) .cancelled
            exec (.readyChange n level) s = .next (s.settled
              ((freed.bcuOpen s.sensed (slotBreaker n) (.gen n)).1.failSlot s.sensed n .readyLost))))) ∧
      (level = true → r.ready = false → r.state = .starting → isLive s.sensed k (slotChannel n) = true →
        exec (.readyChange n level) s = .next (s.settled (k1.enterAwaiting s.sensed n .ready)))

/-- START, STOP and RESET_SLOT by the tables of R113, and BIAS_SET by R119, for each state the slot can be in; RANGE for a
slot outside 1 to 6. A STOP of a slot at rest or on its way there bars it too (the model's reading, assumption 31), and
RESET_SLOT of a breaker both locked out and not observed OPEN is refused LOCKOUT (the model's choice, assumption 73). -/
def Obligations.SlotRequestsFollowTheTables : Prop :=
  (∀ (p : Port) (x : Byte) (duty : Word16) (s : State), s.inReset = false → s.admits p .operate → slotOf x = none →
    let refused : State := { s with control := (s.asked p).respond p ⟨.refused .range, .bytes []⟩ }
    exec (.start p x) s = .next refused ∧ exec (.stop p x) s = .next refused ∧
      exec (.resetSlot p x) s = .next refused ∧ exec (.biasSet p x duty) s = .next refused) ∧
  ∀ (p : Port) (x : Byte) (duty : Word16) (n : Slot) (s : State), s.inReset = false → s.admits p .operate →
    slotOf x = some n →
    let k := s.asked p
    let r := k.slot n
    let done : Response := ⟨.done, .bytes []⟩
    let refuse (why : Reason) : State := { s with control := k.respond p ⟨.refused why, .bytes []⟩ }
    let wanted := k.modSlot n fun r => { r with demand := .port, barred := false }
    let stopped := k.modSlot n fun r => { r with barred := true }
    (r.state = .standby →
      exec (.start p x) s = .next (s.settled ((wanted.setSlotState s.sensed n .starting .port).respond p done))) ∧
    (r.state ∈ [.starting, .awaitingBus, .synchronizing, .closing, .online] →
      exec (.start p x) s = .next { s with control := (if r.demand = .plan then wanted else k).respond p done }) ∧
    (r.state = .unavailable →
      exec (.start p x) s = .next (refuse (if k.outOfService (slotBreaker n) then .outOfService else .inconsistent))) ∧
    (r.state ∈ [.unloading, .cooldown, .failed] → exec (.start p x) s = .next (refuse .busy)) ∧
    (r.state = .online →
      let last : Prop := (k.tiu.supply.ba = .gen ∨ k.tiu.supply.bb = .gen) ∧ ∀ m, m ≠ n → (k.slot m).state ≠ .online
      (last → exec (.stop p x) s = .next (refuse .lastSource)) ∧
      (¬last → exec (.stop p x) s =
        .next (s.settled ((stopped.setSlotState s.sensed n .unloading .stop).respond p done)))) ∧
    (r.state = .starting ∨ r.state = .awaitingBus ∨ (r.state = .synchronizing ∧ ownCloseInFlight k n = false) →
      exec (.stop p x) s = .next (s.settled ((stopped.restSlot s.sensed n .stop).respond p done))) ∧
    (r.state = .closing ∨ (r.state = .synchronizing ∧ ownCloseInFlight k n = true) →
      exec (.stop p x) s = .next { s with
        control := (stopped.modSlot n fun r => { r with deferredStop := true }).respond p ⟨.accepted, .bytes []⟩ }) ∧
    (r.state ∈ [.standby, .unloading, .cooldown, .failed, .unavailable] →
      exec (.stop p x) s = .next { s with control := stopped.respond p done }) ∧
    (r.state ≠ .failed → exec (.resetSlot p x) s = .next (refuse .inconsistent)) ∧
    (r.state = .failed →
      ((k.lockout (slotBreaker n)).flag = true → exec (.resetSlot p x) s = .next (refuse .lockout)) ∧
      ((k.lockout (slotBreaker n)).flag = false →
        ((k.breaker (slotBreaker n)).observed ≠ .opened → exec (.resetSlot p x) s = .next (refuse .inconsistent)) ∧
        ((k.breaker (slotBreaker n)).observed = .opened →
          exec (.resetSlot p x) s = .next (s.settled (((k.modSlot n fun r => { r with fault := none }).setSlotState
            s.sensed n (if k.common.slotEnabled.get n && !k.outOfService (slotBreaker n) then .standby else .unavailable)
            .resetSlot).respond p done))))) ∧
    (1000 < duty.toNat → exec (.biasSet p x duty) s = .next (refuse .range)) ∧
    (duty.toNat ≤ 1000 →
      (r.state ≠ .online → exec (.biasSet p x duty) s = .next (refuse .inconsistent)) ∧
      (r.state = .online → exec (.biasSet p x duty) s = .next { s with
        control := (k.modSlot n fun r => { r with
          setPoint := duty.toNat
          duty := if k.tsq.hold then r.duty else clampDuty k duty.toNat }).respond p
            ⟨if k.common.dmin ≤ duty.toNat ∧ duty.toNat ≤ k.common.dmax then .done else .clamped, .bytes []⟩ }))

/-- The bias outputs (R125): a period starts where the last one ended, with the period and the duties then in force, every
output with a duty above 0 high; an output falls when its high time floor(P·d / 1000) has passed, not before, and one of
duty 1000 not within the period. A period or a high time not yet ended does nothing (the model's choice, assumption 2). -/
def Obligations.BiasOutputsFollowTheDuties : Prop :=
  ∀ (s : State), s.inReset = false →
    let k := s.blocks
    let bias := k.gsc.bias
    let timebase := s.sensed.clock.timebase
    (reached (bias.start + BitVec.ofNat 32 bias.period) timebase = true →
      exec .biasPeriodStart s = .next { s with
        control := { k with gsc := { k.gsc with bias := {
          start := bias.start + BitVec.ofNat 32 bias.period
          period := k.common.biasPeriod * 10
          duties := .ofFn fun n => (k.slot n).duty
          high := .ofFn fun n => decide (0 < (k.slot n).duty) } } } }) ∧
    (reached (bias.start + BitVec.ofNat 32 bias.period) timebase = false →
      exec .biasPeriodStart s = .next { s with control := k }) ∧
    ∀ n,
      (bias.duties.get n < 1000 → bias.period * bias.duties.get n / 1000 ≤ (timebase - bias.start).toNat →
        exec (.biasHighTimeEnd n) s = .next { s with
          control := { k with gsc := { k.gsc with bias := { bias with high := bias.high.set n false } } } }) ∧
      (bias.duties.get n < 1000 → (timebase - bias.start).toNat < bias.period * bias.duties.get n / 1000 →
        exec (.biasHighTimeEnd n) s = .next { s with control := k }) ∧
      (1000 ≤ bias.duties.get n → exec (.biasHighTimeEnd n) s = .next { s with control := k })

/-! ## Load blocks -/

/-- The overload and underfrequency timers shed the GB-fed block with the highest priority number, if there is one, with
their cause, and the timer starts anew (for underfrequency only while GB still stands below the threshold); the end of the
restore interval removes it and a restore is sought (R131, R133, R135, R136). A shed block is OPENING off the list, with its
cause and BLOCK_SHED with its estimate. -/
def Obligations.LoadTimersShedAndRestore : Prop :=
  ∀ (s : State), s.inReset = false →
    let k := s.blocks
    let first (f : Block) : Prop :=
      gbFed k f = true ∧ ∀ g, g ≠ f → gbFed k g = true → k.common.shedPriority.get g < k.common.shedPriority.get f
    (k.ldm.overload.due s.now = true →
      let t : Timer := .running (s.now + BitVec.ofNat 32 (k.group.overloadDelay * 1000))
      ((∀ f, gbFed k f = false) →
        exec .overloadTimerExpiry s = .next { s with control := k.setOverload t }) ∧
      (∀ f, first f →
        exec .overloadTimerExpiry s = .next (s.settled ((k.shed s.sensed f .overload).1.setOverload t)))) ∧
    (∀ st cause, (st = .stage1 ∧ cause = .underfrequency1) ∨ (st = .stage2 ∧ cause = .underfrequency2) →
      (k.ldm.uf.get st).due s.now = true →
      let t : Timer :=
        if (s.sensed.pcu.get .gb).state = .tracking ∧ (s.sensed.pcu.get .gb).freq < (ufSettings k st).1 then
          .running (s.now + BitVec.ofNat 32 (ufSettings k st).2)
        else .off
      ((∀ f, gbFed k f = false) →
        exec (.underfrequencyTimerExpiry st) s = .next { s with control := k.setUf st t }) ∧
      (∀ f, first f →
        exec (.underfrequencyTimerExpiry st) s = .next (s.settled ((k.shed s.sensed f cause).1.setUf st t)))) ∧
    (k.ldm.restoreTimer.due s.now = true →
      exec .restoreIntervalEnd s = .next (s.settled
        (({ k with ldm := { k.ldm with restoreTimer := .off } } : Control).seekRestore s.sensed))) ∧
    ∀ f cause,
      let k' := (k.shed s.sensed f cause).1
      (k'.blockRec f).state = .opening ∧ (k'.blockRec f).lastShed = cause ∧
      (∀ g, g ≠ f → k'.blockRec g = k.blockRec g) ∧ f ∉ k'.ldm.shedList ∧
      ∃ q, k'.erq = Erq.append q s.now .blockShed (.breaker (blockBreaker f)) cause (k.common.estimate.get f)

/-- SHED, RESTORE, BLOCK and UNBLOCK act on the named blocks that meet their condition, ignore the others, and answer with
the set acted on, one mask byte (R138 to R140, R184; that the payload is that byte is the model's reading, assumption 45):
ACCEPTED for a SHED that demanded an open, and DONE else. SHED takes them in ascending feeder order (R139); that RESTORE,
BLOCK and UNBLOCK do so is the model's choice (assumption 95). UNBLOCK goes by the feeder's observed state alone, whatever
close is in flight (the model's choice, assumption 75). -/
def Obligations.LoadRequestsActOnTheNamedBlocks : Prop :=
  ∀ (p : Port) (mask : Byte) (s : State), s.inReset = false → s.admits p .operate →
    let k := s.asked p
    let named (cond : Block → Bool) : List Block := Block.all.filter fun f => mask.getLsbD f.index && cond f
    let answer (st : Status) (fs : List Block) : Response := ⟨st, .bytes [blocksMask fs]⟩
    let connected := named fun f => (k.blockRec f).state = .connected
    let listed := named fun f => (k.blockRec f).state = .listed
    let blocked := named fun f => (k.blockRec f).state = .blocked &&
      ((k.breaker (blockBreaker f)).observed = .opened || (k.breaker (blockBreaker f)).observed = .travel)
    exec (.shed p mask) s = .next (s.settled
      ((forEach connected (fun f k => (k.shed s.sensed f .port).1) k).respond p
        (answer (if connected = [] then .done else .accepted) connected))) ∧
    exec (.restore p mask) s = .next (s.settled
      ((({ k with ldm := { k.ldm with
          pacingStopped := false
          blocks := .ofFn fun f => if f ∈ listed then { k.blockRec f with restoreRequested := true }
            else k.blockRec f } } : Control).seekRestore s.sensed).respond p (answer .done listed))) ∧
    exec (.block p mask) s = .next (s.settled
      ((forEach listed (fun f k => k.setBlock f .blocked) k).respond p (answer .done listed))) ∧
    exec (.unblock p mask) s = .next (s.settled
      ((forEach blocked (fun f k => k.setBlock f .listed) k).respond p (answer .done blocked)))

/-! ## Protection -/

/-- One step of the elements (R145 to R147, R151, R152), for every record and every setting; an accepted frame is
delivered to PRU once, among the blocks in the model's fixed order (assumption 4), and PRU steps every breaker if it is
FRESH, in ascending index (the model's choice, assumption 85), and none if it is not (R144); a breaker's step takes the
settings in force and its record, writes the stepped record, and demands each trip with PROTECTION_TRIP and its value
(R153), the event before the demand (the model's reading, assumption 36), and overcurrent before instantaneous (the
model's choice, assumption 58), and reverse power last (the model's choice, assumption 92). -/
def Obligations.ElementsStepByTheRules : Prop :=
  (∀ (set : ElementSettings) (current : Nat) (r : ProtectionRec),
    let m := min 65535 (current * 16 / set.pickup)
    let r' := (stepOvercurrent set current r).1
    let trips := (stepOvercurrent set current r).2
    let r'' := (stepInstantaneous set r').1
    let instTrips := (stepInstantaneous set r').2
    r'.instCount = r.instCount ∧ r'.reverse = r.reverse ∧ r'.failure = r.failure ∧ r'.backupWatch = r.backupWatch ∧
    r'' = { r' with instCount := r''.instCount } ∧
    (set.pickup = 0 → r'.bucket = 0 ∧ r'.operated = false ∧ r'.m16 = 0 ∧ r''.instCount = 0 ∧
      trips = false ∧ instTrips = false) ∧
    (set.pickup ≠ 0 → r'.m16 = m ∧
      (m < 16 → trips = false ∧ instTrips = false ∧ r''.instCount = 0 ∧
        (set.resetTime = 0 → r'.bucket = 0) ∧
        (set.resetTime ≠ 0 → r'.bucket = r.bucket - 16777216 * 4 / set.resetTime) ∧
        (r'.bucket = 0 → r'.operated = false) ∧ (r'.bucket ≠ 0 → r'.operated = r.operated)) ∧
      (16 ≤ m → ∀ pre post x, set.curve = pre ++ x :: post → x.threshold ≤ m → (∀ y, y ∈ post → m < y.threshold) →
        r'.bucket = min 16777216 (r.bucket + x.rate * 4 * 100 / set.timeMultiplier) ∧
        trips = (decide (r'.bucket = 16777216) && !r.operated) ∧ r'.operated = (r.operated || trips)) ∧
      (set.instThreshold = 0 ∨ m < set.instThreshold → r''.instCount = 0 ∧ instTrips = false) ∧
      (16 ≤ m → set.instThreshold ≠ 0 → set.instThreshold ≤ m →
        r''.instCount = min 2 (r.instCount + 1) ∧ instTrips = decide (r.instCount = 1)))) ∧
  (∀ (e : Sensed) (k : Control) (b : Breaker) (n : Slot) (r : ProtectionRec),
    let power := e.mlr.image.power.get n
    let threshold : Int := ((k.common.rating.get n * k.group.reverseThreshold / 100 : Nat) : Int)
    let risen := min 30000 (r.reverse + 4)
    ((k.breaker b).observed = .opened ∨ -threshold ≤ power → stepReverse e k b n r = ({ r with reverse := 0 }, false)) ∧
    ((k.breaker b).observed ≠ .opened → power < -threshold →
      (risen < k.group.reverseDelay → stepReverse e k b n r = ({ r with reverse := risen }, false)) ∧
      (k.group.reverseDelay ≤ risen → stepReverse e k b n r = ({ r with reverse := 0 }, true)))) ∧
  (∀ (bytes : List Byte) (s : State), s.inReset = false → bytes.length = 74 → checksum bytes = 0 →
    s.sensed.mlr.lastSeq ≠ some (bytes.headD 0) →
    ∃ e k told, exec (.measurementFrame bytes 0) s = .next ({ s with sensed := e }.settled k) ∧
      k.pru = s.control.pru ∧ k.notices = told ++ [.frameSmn, .framePru, .frameTiu, .frameLdm, .frameGsc, .frameTsq] ∧
      .framePru ∉ told) ∧
  ∀ (e : Sensed) (k : Control),
    (e.mlr.fresh = false → k.handle e .framePru = k) ∧
    (e.mlr.fresh = true →
      k.handle e .framePru = Breaker.all.foldl (fun k b => k.evaluateProtection e b) k) ∧
    ∀ b,
      let set : ElementSettings := {
        pickup := k.group.pickup.get b
        curve := match CurveNo.ofIndex (k.group.curve.get b) with
          | some c => k.sst.working.curves.get c
          | none => []
        timeMultiplier := k.group.timeMultiplier.get b
        resetTime := k.group.resetTime.get b
        instThreshold := k.group.instThreshold.get b }
      let timed := stepOvercurrent set (e.mlr.image.curr.get b) (k.prot b)
      let inst := stepInstantaneous set timed.1
      let demand (k : Control) (trips : Bool) (c : Cause) (value : Int) : Control :=
        if trips then (k.record e .protectionTrip (.breaker b) c value).bcuTrip e b .protection c else k
      let value : Int := min inst.1.m16 32767
      let k1 := demand (demand (k.modProt b fun _ => inst.1) timed.2 .overcurrent value) inst.2 .instantaneous value
      (breakerSlot b = none → k.evaluateProtection e b = k1) ∧
      ∀ n, breakerSlot b = some n →
        let rev := stepReverse e k1 b n (k1.prot b)
        k.evaluateProtection e b =
          demand (k1.modProt b fun _ => rev.1) rev.2 .reversePower (e.mlr.image.power.get n)

/-- The expiry of a breaker's failure timer (R157): it has no further effect on a breaker observed OPEN whose current is
not judged to flow on; a breaker that has failed is locked out, and every possibly-closed breaker of its backup set is
tripped with cause BACKUP in ascending index before BACKUP_TRIP is recorded with their number. Every trip taken gives PRU
its notice: by its cause it sets the lockout, a first cause standing, and starts the failure timer unless it runs (R153,
R154, R156); a BACKUP trip sets the watch on a breaker observed other than OPEN, and none on one observed OPEN, one whose
CLOSE it cut included (R158; that case is the model's choice, assumption 59). A watched operation that fails leaves
BACKUP_FAILED as lockout cause, with its event; any end of it ends the watch (R158). -/
def Obligations.FailedBreakersAreBackedUp : Prop :=
  (∀ (b : Breaker) (s : State), s.inReset = false → (s.control.prot b).failure.due s.now = true →
    let k := s.blocks.modProt b fun r => { r with failure := .off }
    let carries : Prop := s.sensed.mlr.fresh = true ∧ k.group.failureCurrent ≤ s.sensed.mlr.image.curr.get b
    ((k.breaker b).observed = .opened → ¬carries → exec (.failureTimerExpiry b) s = .next { s with control := k }) ∧
    ((k.breaker b).observed ≠ .opened ∨ carries →
      let k1 := k.setLockout s.sensed b .breakerFailure
      let targets := (backupSet b).filter (possiblyClosed k)
      exec (.failureTimerExpiry b) s = .next (s.settled
        ((forEach targets (fun c k => k.bcuTrip s.sensed c .protection .backup) k1).record s.sensed .backupTrip (.breaker b)
          .breakerFailure targets.length)) ∧
      (k1.lockout b).flag = true ∧
      ((k.lockout b).flag = true → (k.lockout b).cause = .breakerFailure ∨ (k.lockout b).cause = .backupFailed → k1 = k) ∧
      ((k.lockout b).flag = false ∨
          ((k.lockout b).cause ≠ .breakerFailure ∧ (k.lockout b).cause ≠ .backupFailed) →
        k1.lockout b = ⟨true, .breakerFailure⟩ ∧
        k1.erq = k.erq.append s.now .lockoutSet (.breaker b) .breakerFailure 0))) ∧
  (∀ (e : Sensed) (k : Control) (b : Breaker) (p : Party) (c : Cause),
    let k' := k.bcuTrip e b p c
    k'.pru = (k.tripTaken e b c).pru ∧ k'.sst = (k.tripTaken e b c).sst) ∧
  (∀ (e : Sensed) (k : Control) (b : Breaker) (c : Cause),
    let k' := k.tripTaken e b c
    let locks : Prop := c = .reversePower ∨ c = .overlapExceeded ∨ c = .backup ∨
      ((c = .overcurrent ∨ c = .instantaneous) ∧ k.group.lockoutOnTrip.get b = true)
    (locks → (k.lockout b).flag = false → k'.lockout b = ⟨true, c⟩) ∧
    (¬locks ∨ (k.lockout b).flag = true → k'.sst = k.sst) ∧
    (c = .overcurrent ∨ c = .instantaneous ∨ c = .reversePower ∨ c = .overlapExceeded →
      k'.prot b = { k.prot b with
        failure := if (k.prot b).failure.active then (k.prot b).failure
          else .running (e.now + BitVec.ofNat 32 k.group.failureTime) }) ∧
    (c = .backup → k'.prot b = { k.prot b with
      backupWatch := (k.prot b).backupWatch || decide ((k.breaker b).observed ≠ .opened) }) ∧
    ∀ a, a ≠ b → k'.prot a = k.prot a ∧ k'.lockout a = k.lockout a) ∧
  ∀ (e : Sensed) (k : Control) (b : Breaker) (fin : OpEnd),
    let k' := k.watchEnded e b fin
    ((k.prot b).backupWatch = false → k' = k) ∧
    ((k.prot b).backupWatch = true → k'.prot b = { k.prot b with backupWatch := false } ∧
      (∀ result, fin = .failed result →
        (∃ q, k'.erq = Erq.append q e.now .backupFailed (.breaker b) result (if b = .i1 ∨ b = .i2 then 1 else 0)) ∧
        (k'.lockout b).flag = true ∧
        ((k.lockout b).cause ≠ .breakerFailure ∨ (k.lockout b).flag = false →
          k'.lockout b = ⟨true, .backupFailed⟩)) ∧
      ((∀ result, fin ≠ .failed result) → k' = k.modProt b fun r => { r with backupWatch := false }))

/-! ## Ports, keys and events -/

/-- TAKEOVER, RELEASE and the lapse (R166 to R168): taken while no port is ACTIVE, and AUTHORITY otherwise; an ACTIVE or
LAPSED port becomes STANDBY, and a STANDBY port's release changes nothing; the lapse leaves the role vacant. Each change
records its event, and nothing else changes. -/
def Obligations.RolesChangeByTheTables : Prop :=
  ∀ (p : Port) (s : State), s.inReset = false → p ≠ .cpP →
    let k := s.asked p
    let done : Response := ⟨.done, .bytes []⟩
    ((k.port .cpA).role = .active ∨ (k.port .cpB).role = .active →
      exec (.takeover p) s = .next { s with control := k.respond p ⟨.refused .authority, .bytes []⟩ }) ∧
    ((k.port .cpA).role ≠ .active → (k.port .cpB).role ≠ .active →
      exec (.takeover p) s = .next { s with
        control := ({ k.modPort p fun r => { r with
            role := .active
            lapse := .running (s.now + BitVec.ofNat 32 k.common.lapseTime) } with
          erq := k.erq.append s.now .roleChange (.port p) .takeover 1 } : Control).respond p done }) ∧
    ((k.port p).role = .standby → exec (.release p) s = .next { s with control := k.respond p done }) ∧
    ((k.port p).role ≠ .standby →
      exec (.release p) s = .next { s with
        control := ({ k.modPort p fun r => { r with role := .standby, lapse := .off } with
          erq := k.erq.append s.now .roleChange (.port p) .release 0 } : Control).respond p done }) ∧
    ((s.control.port p).role = .active → (s.control.port p).lapse.due s.now = true →
      exec (.livenessLapse p) s = .next { s with
        control := { s.blocks.modPort p fun r => { r with role := .lapsed, lapse := .off } with
          erq := s.control.erq.append s.now .livenessLapse (.port p) .none 2 } })

/-- EVENT_READ answers with the smaller of the number asked for and the unread count, the records from the cursor onward in
ascending order, and moves the cursor past them; ACK_ATTENTION moves it past the newest, and the port's attention line is
released; the other ports' cursors stand (R171, R172). -/
def Obligations.EventsAreReadFromTheCursor : Prop :=
  ∀ (p : Port) (number : Byte) (s : State), s.inReset = false → s.control.erq.Sound →
    let k := s.asked p
    let q := k.erq
    let count := min number.toNat (unread k p)
    (number.toNat < 1 ∨ 4 < number.toNat →
      exec (.eventRead p number) s = .next { s with control := k.respond p ⟨.refused .range, .bytes []⟩ }) ∧
    (1 ≤ number.toNat → number.toNat ≤ 4 → ∃ read : List Event,
      exec (.eventRead p number) s = .next { s with
        control := ({ k with erq := { q with
          cursors := q.cursors.set p (q.cursors.get p + BitVec.ofNat 16 count) } } : Control).respond p
            ⟨.done, .bytes (u8 count ++ read.flatMap Event.bytes)⟩ } ∧
      read.length = count ∧ (∀ x, x ∈ read → x ∈ q.events) ∧
      (unread k p ≤ number.toNat → attention s.inReset { k with erq := { q with
        cursors := q.cursors.set p (q.cursors.get p + BitVec.ofNat 16 count) } } p = false) ∧
      ∀ i x, read[i]? = some x → x.seq = q.cursors.get p + BitVec.ofNat 16 i) ∧
    (s.admits p .operate →
      let after : Control := { k with erq := { q with cursors := q.cursors.set p q.nextSeq } }
      exec (.ackAttention p) s = .next { s with control := after.respond p ⟨.done, .bytes []⟩ } ∧
      attention s.inReset after p = false)

/-- A new level at a key is timed for 50 ms, and a level that goes back to the one in effect is discarded; at the end the
level takes effect with ROLE_CHANGE, but for the level found at reset; a release of the local key ends the hold (R164). -/
def Obligations.KeyLevelsTakeEffect : Prop :=
  ∀ (key : Key) (s : State), s.inReset = false →
    let k := s.blocks
    let r := k.cpi.keys.get key
    let cause : Cause := match key with
      | .localKey => .localKey
      | .settingsKey => .settingsKey
    (∀ level, (level = r.input → exec (.keyInputChange key level) s = .next s) ∧
      (level ≠ r.input → exec (.keyInputChange key level) s = .next { s with
        control := k.modKey key fun r => { r with
          input := level
          timing := if level = r.level then .off else .running (s.now + 50)
          fromReset := false } })) ∧
    (r.timing.due s.now = true →
      let k1 := k.modKey key fun r => { r with level := r.input, timing := .off, fromReset := false }
      let k2 : Control := { k1 with erq := k.erq.append s.now .roleChange (.port .cpP) cause r.input.toNat }
      (∃ t, exec (.keyChangeEffect key) s = .next t ∧ (t.control.cpi.keys.get key).level = r.input) ∧
      (key = .settingsKey ∨ r.input = true ∨ k.tsq.hold = false →
        exec (.keyChangeEffect key) s = .next { s with control := if r.fromReset then k1 else k2 }) ∧
      (key = .localKey → r.input = false → k.tsq.hold = true →
        exec (.keyChangeEffect key) s =
          .next (s.settled ((if r.fromReset then k1 else k2).leaveHold s.sensed .keyReleased))))

/-! ## The store -/

/-- The completion of the nonvolatile write in flight (R176). A verify that passes puts the written data into the image
and clears the value's unstored indication; one that fails leaves image and indications and records STORE_FAULT by the
kind of write. The working values stand. When it comes is left to the outside (assumption 47). A pending lockout set that
is not empty is then written, and empties. -/
def Obligations.NonvolatileWritesComplete : Prop :=
  ∀ (w : Write) (ok : Bool) (s : State), s.inReset = false → s.control.sst.write = some w →
    let old := s.control.sst
    ∃ t, exec (.nonvolatileWriteCompletion ok) s = .next t ∧
      t.control = { s.blocks with sst := t.control.sst, erq := t.control.erq } ∧
      t.control.sst.working = old.working ∧ t.control.sst.pendingLockouts = [] ∧
      (old.pendingLockouts = [] → t.control.sst.write = none) ∧
      (old.pendingLockouts ≠ [] → ∃ w', t.control.sst.write = some w' ∧ w'.kind = .lockout old.pendingLockouts ∧
        w'.start = s.now ∧ ∀ b, w'.data.lockout.get b =
          if b ∈ old.pendingLockouts then old.working.lockout.get b else t.control.sst.image.lockout.get b) ∧
      (ok = true → t.control.sst.image = w.data ∧ t.control.erq = s.control.erq ∧
        (∀ p r, w.kind = .setting p r → ∀ x, t.control.sst.unstored.has x =
          if x = r then false else old.unstored.has x) ∧
        (w.kind = .defaults → ∀ x, t.control.sst.unstored.has x = false)) ∧
      (ok = false → t.control.sst.image = old.image ∧ t.control.sst.unstored = old.unstored ∧
        let fault (q : Erq) (subject : Subject) (cause : Cause) (value : Int) : Erq :=
          q.append s.now .storeFault subject cause value
        match w.kind with
        | .setting p r => t.control.erq = fault s.control.erq (.port p) .setting r.item.code
        | .service b => t.control.erq = fault s.control.erq (.breaker b) .service b.index
        | .curve p c => t.control.erq = fault s.control.erq (.port p) .curve c.index
        | .group p g => t.control.erq = fault s.control.erq (.port p) .group g.index
        | .lockout bs =>
          t.control.erq = bs.foldl (fun q b => fault q (.breaker b) .lockout b.index) s.control.erq
        | .defaults => t.control.erq = fault s.control.erq .none .defaults 0)

/-- GROUP_SELECT by the table of R177, and WINDOW (R170): each outcome, and nothing else changed. -/
def Obligations.GroupsAndWindowsAreSelected : Prop :=
  ∀ (p : Port) (x : Byte) (s : State), s.inReset = false →
    let k := s.asked p
    let answer (r : Status) : State := { s with control := k.respond p ⟨r, .bytes []⟩ }
    (s.admits p .operate →
      (3 < x.toNat → exec (.groupSelect p x) s = .next (answer (.refused .range))) ∧
      ∀ g, GroupNo.ofIndex x.toNat = some g →
        (g = k.sst.working.active → exec (.groupSelect p x) s = .next (answer .done)) ∧
        (g ≠ k.sst.working.active → k.sst.write.isSome = true →
          exec (.groupSelect p x) s = .next (answer (.refused .storeBusy))) ∧
        (g ≠ k.sst.working.active → k.sst.write = none →
          exec (.groupSelect p x) s = .next { s with
            control := ({ k with
              sst := { k.sst with
                working := { k.sst.working with active := g }
                write := some { kind := .group p g, data := { k.sst.image with active := g }, start := s.now } }
              erq := k.erq.append s.now .groupChanged (.port p) (.oldGroup k.sst.working.active.index) g.index } :
                Control).respond p ⟨.done, .bytes []⟩ })) ∧
    (s.admits p .setting →
      (3 < x.toNat → exec (.window p x) s = .next (answer (.refused .range))) ∧
      ∀ g, GroupNo.ofIndex x.toNat = some g →
        exec (.window p x) s = .next { s with
          control := (k.modPort p fun c => { c with window := g }).respond p ⟨.done, .bytes []⟩ })

/-- SETTING_WRITE by the checks of R175 in their order, a group item judged within the group it is written to. A write that
passes changes the one value, in the port's group window for a group item, for good; it starts the write of the item, which
is unstored until then, and leaves the stored image; no other group, and no common item by a group item's write or the other
way, is touched. -/
def Obligations.SettingsAreWrittenByTheChecks : Prop :=
  ∀ (p : Port) (code index : Byte) (value : Word32) (s : State), s.inReset = false → s.admits p .setting →
    let k := s.asked p
    let request : Instr := .settingWrite p code index value
    let answer (r : Status) : State := { s with control := k.respond p ⟨r, .bytes []⟩ }
    (itemNamed k p code index = none → exec request s = .next (answer (.refused .range))) ∧
    ∀ r, itemNamed k p code index = some r →
      let written := k.sst.working.writeItem r.group r.item r.unit value.toNat
      let group := written.groups.get r.group
      let sound : Bool := if r.item.isGroup then group.uvPickup < group.ovPickup else written.consistent
      let verdict := firstFailing [
        (!r.item.inRange value.toNat, Reason.range), (!sound, .inconsistent), (k.sst.write.isSome, .storeBusy)]
      (r.item.isGroup = true → r.group = (k.port p).window) ∧
      (∀ why, verdict = some why → exec request s = .next (answer (.refused why))) ∧
      (verdict = none →
        exec request s =
          .next (s.settled ((k.writeSetting s.sensed p r value.toNat).respond p ⟨.done, .bytes []⟩)) ∧
        (∃ w, (k.writeSetting s.sensed p r value.toNat).sst.write = some w ∧ w.kind = .setting p r ∧ w.start = s.now) ∧
        ∃ t, exec request s = .next t ∧ t.control.common = written.common ∧
          t.control.sst.working.groups = written.groups ∧ t.control.sst.working.active = k.sst.working.active ∧
          (r.item.isGroup = true → t.control.common = s.control.common ∧
            ∀ g, g ≠ r.group → t.control.sst.working.groups.get g = s.control.sst.working.groups.get g) ∧
          (r.item.isGroup = false → t.control.sst.working.groups = s.control.sst.working.groups) ∧
          t.control.sst.image = s.control.sst.image ∧
          ∀ x, t.control.sst.unstored.has x = if x = r then true else s.control.sst.unstored.has x)

/-- The curve load buffer (R149, R150): CURVE_BEGIN empties it for the port and the curve named; CURVE_ENTRY by its table,
row by row, the owner before the ranges (assumption 61); a validation replaces the table whole and starts its write, or
changes nothing, and either way the buffer is left without owner and entries (its index at 16, assumption 28). -/
def Obligations.CurvesAreLoadedThroughTheBuffer : Prop :=
  ∀ (p : Port) (x : Byte) (threshold : Word16) (rate : Word32) (s : State), s.inReset = false → s.admits p .setting →
    let k := s.asked p
    let b := k.pru.buffer
    let answer (r : Status) : State := { s with control := k.respond p ⟨r, .bytes []⟩ }
    let put (b : CurveBuffer) : Control := { k with pru := { k.pru with buffer := b } }
    let entry : CurveEntry := { threshold := threshold.toNat, rate := rate.toNat }
    let request : Instr := .curveEntry p threshold rate
    let inside : Prop := 16 ≤ threshold.toNat ∧ 1 ≤ rate.toNat ∧ rate.toNat ≤ 16777216
    let emptied := put { b with owner := none, index := 16, entries := [] }
    let table := b.entries ++ [entry]
    (3 < x.toNat → exec (.curveBegin p x) s = .next (answer (.refused .range))) ∧
    (∀ c, CurveNo.ofIndex x.toNat = some c →
      exec (.curveBegin p x) s = .next { s with
        control := (put { owner := some p, curve := c, index := 0, entries := [] }).respond p ⟨.done, .bytes []⟩ }) ∧
    (b.owner ≠ some p → exec request s = .next (answer (.refused .inconsistent))) ∧
    (b.owner = some p →
      (¬inside → exec request s = .next (answer (.refused .range))) ∧
      (inside →
        (b.index ≤ 14 → exec request s = .next { s with
          control := (put { b with index := b.index + 1, entries := table }).respond p ⟨.done, .bytes []⟩ }) ∧
        (b.index = 15 →
          (k.sst.write.isSome = true → exec request s = .next (answer (.refused .storeBusy))) ∧
          (k.sst.write = none →
            (curveValid table = false → exec request s = .next { s with
              control := emptied.respond p ⟨.refused .inconsistent, .bytes []⟩ }) ∧
            (curveValid table = true → exec request s = .next { s with
              control := ({ emptied with
                sst := { k.sst with
                  working := { k.sst.working with curves := k.sst.working.curves.set b.curve table }
                  write := some {
                    kind := .curve p b.curve
                    data := { k.sst.image with curves := k.sst.image.curves.set b.curve table }
                    start := s.now } }
                erq := k.erq.append s.now .settingChanged (.port p) .curve b.curve.index } : Control).respond p
                  ⟨.done, .bytes []⟩ })))))

/-! ## The whole part -/

/-- Of every command but device reset: contact inputs change by a contact change alone; observed states and operation counts
by the settle of their breaker; the two flags by a failed operation or RESET_BREAKER; hold by HOLD, RELEASE_HOLD and the
local key; READY by its input; the bias period by its own two events; the curve buffer by the curve requests; keys by
their inputs and effects; settings, active group, service flags and curve tables by the request each has; and the stored
image by the completion of a write. Nothing that follows from any other command touches them. -/
def Obligations.OnlyTheNamedCommandsChange : Prop :=
  ∀ (c : Instr) (s t : State), s.inReset = false → exec c s = .next t → c ≠ .resetInputAsserted →
    (∀ intact, c ≠ .deviceReset intact) →
    (∀ b, (∀ x y, c ≠ .contactCombinationChange b x y) →
      (t.control.breaker b).closedMade = (s.control.breaker b).closedMade ∧
      (t.control.breaker b).openMade = (s.control.breaker b).openMade) ∧
    (∀ b, c ≠ .contactSettle b →
      (t.control.breaker b).observed = (s.control.breaker b).observed ∧
      (t.control.breaker b).opCount = (s.control.breaker b).opCount) ∧
    (∀ b, c ≠ .operationDeadline b → (∀ p x, c ≠ .resetBreaker p x) →
      (t.control.breaker b).closeBlocked = (s.control.breaker b).closeBlocked ∧
      (t.control.breaker b).openFailed = (s.control.breaker b).openFailed) ∧
    ((∀ p, c ≠ .hold p) → (∀ p, c ≠ .releaseHold p) → c ≠ .keyChangeEffect .localKey →
      t.control.tsq.hold = s.control.tsq.hold) ∧
    (∀ n, (∀ x, c ≠ .readyChange n x) → (t.control.slot n).ready = (s.control.slot n).ready) ∧
    (c ≠ .biasPeriodStart → (∀ n, c ≠ .biasHighTimeEnd n) → t.control.gsc.bias = s.control.gsc.bias) ∧
    ((∀ p x, c ≠ .curveBegin p x) → (∀ p x y, c ≠ .curveEntry p x y) →
      t.control.pru.buffer = s.control.pru.buffer) ∧
    (∀ key, (∀ x, c ≠ .keyInputChange key x) → c ≠ .keyChangeEffect key →
      t.control.cpi.keys.get key = s.control.cpi.keys.get key) ∧
    ((∀ p x y v, c ≠ .settingWrite p x y v) →
      t.control.common = s.control.common ∧ t.control.sst.working.groups = s.control.sst.working.groups) ∧
    ((∀ p x, c ≠ .groupSelect p x) → t.control.sst.working.active = s.control.sst.working.active) ∧
    ((∀ p x y, c ≠ .service p x y) → t.control.sst.working.outOfService = s.control.sst.working.outOfService) ∧
    ((∀ p x y, c ≠ .curveEntry p x y) → t.control.sst.working.curves = s.control.sst.working.curves) ∧
    ((∀ ok, c ≠ .nonvolatileWriteCompletion ok) → t.control.sst.image = s.control.sst.image)

/-- At most one of CP-A and CP-B holds the role ACTIVE, and no lapse timer runs for a port that does not: every step keeps
it (R166 to R168). -/
def Obligations.StepsKeepTheRolesSound : Prop :=
  ∀ (s t : State), s.control.RolesSound → step s = .next t → t.control.RolesSound

/-- The close coil is asserted just while a CLOSE is in flight and the trip coil just while an OPEN or TRIP is, never both:
every step keeps it (R45). -/
def Obligations.StepsKeepTheCoilsSound : Prop :=
  ∀ (s t : State), s.control.CoilsSound → step s = .next t → t.control.CoilsSound

/-- The event queue holds at most 128 records with consecutive sequence numbers, and every cursor names a record held or the
number after the newest: every step keeps it (R171, R179). -/
def Obligations.StepsKeepTheEventQueueSound : Prop :=
  ∀ (s t : State), s.control.erq.Sound → step s = .next t → t.control.erq.Sound

/-- Every bucket lies within 0 to 16,777,216, every instantaneous count within 0 to 2, every reverse-power accumulation
within 0 to 30,000 ms and every current multiple within 0 to 65,535: every step keeps it (R145, R147, R151, R152). -/
def Obligations.StepsKeepTheElementsBounded : Prop :=
  ∀ (s t : State), s.control.ElementsBounded → step s = .next t → t.control.ElementsBounded

/-- Right after reset the four promises that every step keeps hold, and no command waits. -/
def Obligations.ResetStateIsSound : Prop :=
  State.reset.control.RolesSound ∧ State.reset.control.CoilsSound ∧ State.reset.control.erq.Sound ∧
    State.reset.control.ElementsBounded ∧ State.reset.pending = []
end

