-- ==== Sys2Proof/Laws/Tables.lean ====
section
/-! SUPPORT. Reading a fixed table after writing one of its entries. -/

namespace Sys2Proof

theorem PerBreaker.get_set {α : Type} (t : PerBreaker α) (i j : Breaker) (v : α) :
    (t.set i v).get j = if j = i then v else t.get j := by
  cases i <;> cases j <;> rfl

@[simp] theorem PerBreaker.get_set_same {α : Type} (t : PerBreaker α) (i : Breaker) (v : α) : (t.set i v).get i = v := by
  cases i <;> rfl

theorem PerBreaker.get_set_other {α : Type} (t : PerBreaker α) {i j : Breaker} (v : α) (h : j ≠ i) :
    (t.set i v).get j = t.get j := by
  rw [PerBreaker.get_set, if_neg h]

@[simp] theorem PerBreaker.get_ofFn {α : Type} (f : Breaker → α) (i : Breaker) : (PerBreaker.ofFn f).get i = f i := by
  cases i <;> rfl

@[simp] theorem PerBreaker.get_modify_same {α : Type} (t : PerBreaker α) (i : Breaker) (f : α → α) :
    (t.modify i f).get i = f (t.get i) := PerBreaker.get_set_same t i _

theorem PerBreaker.get_modify_other {α : Type} (t : PerBreaker α) {i j : Breaker} (f : α → α) (h : j ≠ i) :
    (t.modify i f).get j = t.get j := PerBreaker.get_set_other t _ h

/-- Two tables with the same entries are the same table. -/
theorem PerBreaker.ext_get {α : Type} {s t : PerBreaker α} (h : ∀ i, s.get i = t.get i) : s = t := by
  cases s; cases t
  simp only [PerBreaker.mk.injEq]
  exact ⟨h .i1, h .i2, h .tie, h .ma, h .mb, h .g1, h .g2, h .g3, h .g4, h .g5, h .g6, h .f1, h .f2, h .f3, h .f4, h .f5, h .f6, h .f7, h .f8⟩

@[simp] theorem Breaker.ofIndex_index (i : Breaker) : Breaker.ofIndex i.index = some i := by
  cases i <;> rfl

theorem Breaker.mem_all (i : Breaker) : i ∈ Breaker.all := by
  cases i <;> simp [Breaker.all]

theorem PerChannel.get_set {α : Type} (t : PerChannel α) (i j : Channel) (v : α) :
    (t.set i v).get j = if j = i then v else t.get j := by
  cases i <;> cases j <;> rfl

@[simp] theorem PerChannel.get_set_same {α : Type} (t : PerChannel α) (i : Channel) (v : α) : (t.set i v).get i = v := by
  cases i <;> rfl

theorem PerChannel.get_set_other {α : Type} (t : PerChannel α) {i j : Channel} (v : α) (h : j ≠ i) :
    (t.set i v).get j = t.get j := by
  rw [PerChannel.get_set, if_neg h]

@[simp] theorem PerChannel.get_ofFn {α : Type} (f : Channel → α) (i : Channel) : (PerChannel.ofFn f).get i = f i := by
  cases i <;> rfl

@[simp] theorem PerChannel.get_modify_same {α : Type} (t : PerChannel α) (i : Channel) (f : α → α) :
    (t.modify i f).get i = f (t.get i) := PerChannel.get_set_same t i _

theorem PerChannel.get_modify_other {α : Type} (t : PerChannel α) {i j : Channel} (f : α → α) (h : j ≠ i) :
    (t.modify i f).get j = t.get j := PerChannel.get_set_other t _ h

/-- Two tables with the same entries are the same table. -/
theorem PerChannel.ext_get {α : Type} {s t : PerChannel α} (h : ∀ i, s.get i = t.get i) : s = t := by
  cases s; cases t
  simp only [PerChannel.mk.injEq]
  exact ⟨h .u1, h .u2, h .ba, h .bb, h .gb, h .g1, h .g2, h .g3, h .g4, h .g5, h .g6⟩

@[simp] theorem Channel.ofIndex_index (i : Channel) : Channel.ofIndex i.index = some i := by
  cases i <;> rfl

theorem Channel.mem_all (i : Channel) : i ∈ Channel.all := by
  cases i <;> simp [Channel.all]

theorem PerUtility.get_set {α : Type} (t : PerUtility α) (i j : Utility) (v : α) :
    (t.set i v).get j = if j = i then v else t.get j := by
  cases i <;> cases j <;> rfl

@[simp] theorem PerUtility.get_set_same {α : Type} (t : PerUtility α) (i : Utility) (v : α) : (t.set i v).get i = v := by
  cases i <;> rfl

theorem PerUtility.get_set_other {α : Type} (t : PerUtility α) {i j : Utility} (v : α) (h : j ≠ i) :
    (t.set i v).get j = t.get j := by
  rw [PerUtility.get_set, if_neg h]

@[simp] theorem PerUtility.get_ofFn {α : Type} (f : Utility → α) (i : Utility) : (PerUtility.ofFn f).get i = f i := by
  cases i <;> rfl

@[simp] theorem PerUtility.get_modify_same {α : Type} (t : PerUtility α) (i : Utility) (f : α → α) :
    (t.modify i f).get i = f (t.get i) := PerUtility.get_set_same t i _

theorem PerUtility.get_modify_other {α : Type} (t : PerUtility α) {i j : Utility} (f : α → α) (h : j ≠ i) :
    (t.modify i f).get j = t.get j := PerUtility.get_set_other t _ h

/-- Two tables with the same entries are the same table. -/
theorem PerUtility.ext_get {α : Type} {s t : PerUtility α} (h : ∀ i, s.get i = t.get i) : s = t := by
  cases s; cases t
  simp only [PerUtility.mk.injEq]
  exact ⟨h .u1, h .u2⟩

@[simp] theorem Utility.ofIndex_index (i : Utility) : Utility.ofIndex i.index = some i := by
  cases i <;> rfl

theorem Utility.mem_all (i : Utility) : i ∈ Utility.all := by
  cases i <;> simp [Utility.all]

theorem PerBus.get_set {α : Type} (t : PerBus α) (i j : Bus) (v : α) :
    (t.set i v).get j = if j = i then v else t.get j := by
  cases i <;> cases j <;> rfl

@[simp] theorem PerBus.get_set_same {α : Type} (t : PerBus α) (i : Bus) (v : α) : (t.set i v).get i = v := by
  cases i <;> rfl

theorem PerBus.get_set_other {α : Type} (t : PerBus α) {i j : Bus} (v : α) (h : j ≠ i) :
    (t.set i v).get j = t.get j := by
  rw [PerBus.get_set, if_neg h]

@[simp] theorem PerBus.get_ofFn {α : Type} (f : Bus → α) (i : Bus) : (PerBus.ofFn f).get i = f i := by
  cases i <;> rfl

@[simp] theorem PerBus.get_modify_same {α : Type} (t : PerBus α) (i : Bus) (f : α → α) :
    (t.modify i f).get i = f (t.get i) := PerBus.get_set_same t i _

theorem PerBus.get_modify_other {α : Type} (t : PerBus α) {i j : Bus} (f : α → α) (h : j ≠ i) :
    (t.modify i f).get j = t.get j := PerBus.get_set_other t _ h

/-- Two tables with the same entries are the same table. -/
theorem PerBus.ext_get {α : Type} {s t : PerBus α} (h : ∀ i, s.get i = t.get i) : s = t := by
  cases s; cases t
  simp only [PerBus.mk.injEq]
  exact ⟨h .ba, h .bb⟩

@[simp] theorem Bus.ofIndex_index (i : Bus) : Bus.ofIndex i.index = some i := by
  cases i <;> rfl

theorem Bus.mem_all (i : Bus) : i ∈ Bus.all := by
  cases i <;> simp [Bus.all]

theorem PerClaimBus.get_set {α : Type} (t : PerClaimBus α) (i j : ClaimBus) (v : α) :
    (t.set i v).get j = if j = i then v else t.get j := by
  cases i <;> cases j <;> rfl

@[simp] theorem PerClaimBus.get_set_same {α : Type} (t : PerClaimBus α) (i : ClaimBus) (v : α) : (t.set i v).get i = v := by
  cases i <;> rfl

theorem PerClaimBus.get_set_other {α : Type} (t : PerClaimBus α) {i j : ClaimBus} (v : α) (h : j ≠ i) :
    (t.set i v).get j = t.get j := by
  rw [PerClaimBus.get_set, if_neg h]

@[simp] theorem PerClaimBus.get_ofFn {α : Type} (f : ClaimBus → α) (i : ClaimBus) : (PerClaimBus.ofFn f).get i = f i := by
  cases i <;> rfl

@[simp] theorem PerClaimBus.get_modify_same {α : Type} (t : PerClaimBus α) (i : ClaimBus) (f : α → α) :
    (t.modify i f).get i = f (t.get i) := PerClaimBus.get_set_same t i _

theorem PerClaimBus.get_modify_other {α : Type} (t : PerClaimBus α) {i j : ClaimBus} (f : α → α) (h : j ≠ i) :
    (t.modify i f).get j = t.get j := PerClaimBus.get_set_other t _ h

/-- Two tables with the same entries are the same table. -/
theorem PerClaimBus.ext_get {α : Type} {s t : PerClaimBus α} (h : ∀ i, s.get i = t.get i) : s = t := by
  cases s; cases t
  simp only [PerClaimBus.mk.injEq]
  exact ⟨h .ba, h .bb, h .gb⟩

@[simp] theorem ClaimBus.ofIndex_index (i : ClaimBus) : ClaimBus.ofIndex i.index = some i := by
  cases i <;> rfl

theorem ClaimBus.mem_all (i : ClaimBus) : i ∈ ClaimBus.all := by
  cases i <;> simp [ClaimBus.all]

theorem PerSlot.get_set {α : Type} (t : PerSlot α) (i j : Slot) (v : α) :
    (t.set i v).get j = if j = i then v else t.get j := by
  cases i <;> cases j <;> rfl

@[simp] theorem PerSlot.get_set_same {α : Type} (t : PerSlot α) (i : Slot) (v : α) : (t.set i v).get i = v := by
  cases i <;> rfl

theorem PerSlot.get_set_other {α : Type} (t : PerSlot α) {i j : Slot} (v : α) (h : j ≠ i) :
    (t.set i v).get j = t.get j := by
  rw [PerSlot.get_set, if_neg h]

@[simp] theorem PerSlot.get_ofFn {α : Type} (f : Slot → α) (i : Slot) : (PerSlot.ofFn f).get i = f i := by
  cases i <;> rfl

@[simp] theorem PerSlot.get_modify_same {α : Type} (t : PerSlot α) (i : Slot) (f : α → α) :
    (t.modify i f).get i = f (t.get i) := PerSlot.get_set_same t i _

theorem PerSlot.get_modify_other {α : Type} (t : PerSlot α) {i j : Slot} (f : α → α) (h : j ≠ i) :
    (t.modify i f).get j = t.get j := PerSlot.get_set_other t _ h

/-- Two tables with the same entries are the same table. -/
theorem PerSlot.ext_get {α : Type} {s t : PerSlot α} (h : ∀ i, s.get i = t.get i) : s = t := by
  cases s; cases t
  simp only [PerSlot.mk.injEq]
  exact ⟨h .s1, h .s2, h .s3, h .s4, h .s5, h .s6⟩

@[simp] theorem Slot.ofIndex_index (i : Slot) : Slot.ofIndex i.index = some i := by
  cases i <;> rfl

theorem Slot.mem_all (i : Slot) : i ∈ Slot.all := by
  cases i <;> simp [Slot.all]

theorem PerBlock.get_set {α : Type} (t : PerBlock α) (i j : Block) (v : α) :
    (t.set i v).get j = if j = i then v else t.get j := by
  cases i <;> cases j <;> rfl

@[simp] theorem PerBlock.get_set_same {α : Type} (t : PerBlock α) (i : Block) (v : α) : (t.set i v).get i = v := by
  cases i <;> rfl

theorem PerBlock.get_set_other {α : Type} (t : PerBlock α) {i j : Block} (v : α) (h : j ≠ i) :
    (t.set i v).get j = t.get j := by
  rw [PerBlock.get_set, if_neg h]

@[simp] theorem PerBlock.get_ofFn {α : Type} (f : Block → α) (i : Block) : (PerBlock.ofFn f).get i = f i := by
  cases i <;> rfl

@[simp] theorem PerBlock.get_modify_same {α : Type} (t : PerBlock α) (i : Block) (f : α → α) :
    (t.modify i f).get i = f (t.get i) := PerBlock.get_set_same t i _

theorem PerBlock.get_modify_other {α : Type} (t : PerBlock α) {i j : Block} (f : α → α) (h : j ≠ i) :
    (t.modify i f).get j = t.get j := PerBlock.get_set_other t _ h

/-- Two tables with the same entries are the same table. -/
theorem PerBlock.ext_get {α : Type} {s t : PerBlock α} (h : ∀ i, s.get i = t.get i) : s = t := by
  cases s; cases t
  simp only [PerBlock.mk.injEq]
  exact ⟨h .f1, h .f2, h .f3, h .f4, h .f5, h .f6, h .f7, h .f8⟩

@[simp] theorem Block.ofIndex_index (i : Block) : Block.ofIndex i.index = some i := by
  cases i <;> rfl

theorem Block.mem_all (i : Block) : i ∈ Block.all := by
  cases i <;> simp [Block.all]

theorem PerPort.get_set {α : Type} (t : PerPort α) (i j : Port) (v : α) :
    (t.set i v).get j = if j = i then v else t.get j := by
  cases i <;> cases j <;> rfl

@[simp] theorem PerPort.get_set_same {α : Type} (t : PerPort α) (i : Port) (v : α) : (t.set i v).get i = v := by
  cases i <;> rfl

theorem PerPort.get_set_other {α : Type} (t : PerPort α) {i j : Port} (v : α) (h : j ≠ i) :
    (t.set i v).get j = t.get j := by
  rw [PerPort.get_set, if_neg h]

@[simp] theorem PerPort.get_ofFn {α : Type} (f : Port → α) (i : Port) : (PerPort.ofFn f).get i = f i := by
  cases i <;> rfl

@[simp] theorem PerPort.get_modify_same {α : Type} (t : PerPort α) (i : Port) (f : α → α) :
    (t.modify i f).get i = f (t.get i) := PerPort.get_set_same t i _

theorem PerPort.get_modify_other {α : Type} (t : PerPort α) {i j : Port} (f : α → α) (h : j ≠ i) :
    (t.modify i f).get j = t.get j := PerPort.get_set_other t _ h

/-- Two tables with the same entries are the same table. -/
theorem PerPort.ext_get {α : Type} {s t : PerPort α} (h : ∀ i, s.get i = t.get i) : s = t := by
  cases s; cases t
  simp only [PerPort.mk.injEq]
  exact ⟨h .cpA, h .cpB, h .cpP⟩

@[simp] theorem Port.ofIndex_index (i : Port) : Port.ofIndex i.index = some i := by
  cases i <;> rfl

theorem Port.mem_all (i : Port) : i ∈ Port.all := by
  cases i <;> simp [Port.all]

theorem PerAttempt.get_set {α : Type} (t : PerAttempt α) (i j : AttemptNo) (v : α) :
    (t.set i v).get j = if j = i then v else t.get j := by
  cases i <;> cases j <;> rfl

@[simp] theorem PerAttempt.get_set_same {α : Type} (t : PerAttempt α) (i : AttemptNo) (v : α) : (t.set i v).get i = v := by
  cases i <;> rfl

theorem PerAttempt.get_set_other {α : Type} (t : PerAttempt α) {i j : AttemptNo} (v : α) (h : j ≠ i) :
    (t.set i v).get j = t.get j := by
  rw [PerAttempt.get_set, if_neg h]

@[simp] theorem PerAttempt.get_ofFn {α : Type} (f : AttemptNo → α) (i : AttemptNo) : (PerAttempt.ofFn f).get i = f i := by
  cases i <;> rfl

@[simp] theorem PerAttempt.get_modify_same {α : Type} (t : PerAttempt α) (i : AttemptNo) (f : α → α) :
    (t.modify i f).get i = f (t.get i) := PerAttempt.get_set_same t i _

theorem PerAttempt.get_modify_other {α : Type} (t : PerAttempt α) {i j : AttemptNo} (f : α → α) (h : j ≠ i) :
    (t.modify i f).get j = t.get j := PerAttempt.get_set_other t _ h

/-- Two tables with the same entries are the same table. -/
theorem PerAttempt.ext_get {α : Type} {s t : PerAttempt α} (h : ∀ i, s.get i = t.get i) : s = t := by
  cases s; cases t
  simp only [PerAttempt.mk.injEq]
  exact ⟨h .a0, h .a1, h .a2, h .a3, h .a4, h .a5, h .a6, h .a7⟩

@[simp] theorem AttemptNo.ofIndex_index (i : AttemptNo) : AttemptNo.ofIndex i.index = some i := by
  cases i <;> rfl

theorem AttemptNo.mem_all (i : AttemptNo) : i ∈ AttemptNo.all := by
  cases i <;> simp [AttemptNo.all]

theorem PerKey.get_set {α : Type} (t : PerKey α) (i j : Key) (v : α) :
    (t.set i v).get j = if j = i then v else t.get j := by
  cases i <;> cases j <;> rfl

@[simp] theorem PerKey.get_set_same {α : Type} (t : PerKey α) (i : Key) (v : α) : (t.set i v).get i = v := by
  cases i <;> rfl

theorem PerKey.get_set_other {α : Type} (t : PerKey α) {i j : Key} (v : α) (h : j ≠ i) :
    (t.set i v).get j = t.get j := by
  rw [PerKey.get_set, if_neg h]

@[simp] theorem PerKey.get_ofFn {α : Type} (f : Key → α) (i : Key) : (PerKey.ofFn f).get i = f i := by
  cases i <;> rfl

@[simp] theorem PerKey.get_modify_same {α : Type} (t : PerKey α) (i : Key) (f : α → α) :
    (t.modify i f).get i = f (t.get i) := PerKey.get_set_same t i _

theorem PerKey.get_modify_other {α : Type} (t : PerKey α) {i j : Key} (f : α → α) (h : j ≠ i) :
    (t.modify i f).get j = t.get j := PerKey.get_set_other t _ h

/-- Two tables with the same entries are the same table. -/
theorem PerKey.ext_get {α : Type} {s t : PerKey α} (h : ∀ i, s.get i = t.get i) : s = t := by
  cases s; cases t
  simp only [PerKey.mk.injEq]
  exact ⟨h .localKey, h .settingsKey⟩

@[simp] theorem Key.ofIndex_index (i : Key) : Key.ofIndex i.index = some i := by
  cases i <;> rfl

theorem Key.mem_all (i : Key) : i ∈ Key.all := by
  cases i <;> simp [Key.all]

theorem PerUfStage.get_set {α : Type} (t : PerUfStage α) (i j : UfStage) (v : α) :
    (t.set i v).get j = if j = i then v else t.get j := by
  cases i <;> cases j <;> rfl

@[simp] theorem PerUfStage.get_set_same {α : Type} (t : PerUfStage α) (i : UfStage) (v : α) : (t.set i v).get i = v := by
  cases i <;> rfl

theorem PerUfStage.get_set_other {α : Type} (t : PerUfStage α) {i j : UfStage} (v : α) (h : j ≠ i) :
    (t.set i v).get j = t.get j := by
  rw [PerUfStage.get_set, if_neg h]

@[simp] theorem PerUfStage.get_ofFn {α : Type} (f : UfStage → α) (i : UfStage) : (PerUfStage.ofFn f).get i = f i := by
  cases i <;> rfl

@[simp] theorem PerUfStage.get_modify_same {α : Type} (t : PerUfStage α) (i : UfStage) (f : α → α) :
    (t.modify i f).get i = f (t.get i) := PerUfStage.get_set_same t i _

theorem PerUfStage.get_modify_other {α : Type} (t : PerUfStage α) {i j : UfStage} (f : α → α) (h : j ≠ i) :
    (t.modify i f).get j = t.get j := PerUfStage.get_set_other t _ h

/-- Two tables with the same entries are the same table. -/
theorem PerUfStage.ext_get {α : Type} {s t : PerUfStage α} (h : ∀ i, s.get i = t.get i) : s = t := by
  cases s; cases t
  simp only [PerUfStage.mk.injEq]
  exact ⟨h .stage1, h .stage2⟩

@[simp] theorem UfStage.ofIndex_index (i : UfStage) : UfStage.ofIndex i.index = some i := by
  cases i <;> rfl

theorem UfStage.mem_all (i : UfStage) : i ∈ UfStage.all := by
  cases i <;> simp [UfStage.all]

theorem PerGroup.get_set {α : Type} (t : PerGroup α) (i j : GroupNo) (v : α) :
    (t.set i v).get j = if j = i then v else t.get j := by
  cases i <;> cases j <;> rfl

@[simp] theorem PerGroup.get_set_same {α : Type} (t : PerGroup α) (i : GroupNo) (v : α) : (t.set i v).get i = v := by
  cases i <;> rfl

theorem PerGroup.get_set_other {α : Type} (t : PerGroup α) {i j : GroupNo} (v : α) (h : j ≠ i) :
    (t.set i v).get j = t.get j := by
  rw [PerGroup.get_set, if_neg h]

theorem PerCurve.get_set {α : Type} (t : PerCurve α) (i j : CurveNo) (v : α) :
    (t.set i v).get j = if j = i then v else t.get j := by
  cases i <;> cases j <;> rfl

@[simp] theorem PerCurve.get_set_same {α : Type} (t : PerCurve α) (i : CurveNo) (v : α) : (t.set i v).get i = v := by
  cases i <;> rfl

theorem PerCurve.get_set_other {α : Type} (t : PerCurve α) {i j : CurveNo} (v : α) (h : j ≠ i) :
    (t.set i v).get j = t.get j := by
  rw [PerCurve.get_set, if_neg h]

end Sys2Proof
end

