-- ==== Sys2Proof/Laws/State.lean ====
section
/-! SUPPORT. What each named update of the state changes, field by field: one lemma per field per update. -/

namespace Sys2Proof.Machine

/-! ### modBreaker -/

@[simp] theorem Control.modBreaker_smn (k : Control) (b : Breaker) (f : BreakerRec → BreakerRec) :
    (k.modBreaker b f).smn = k.smn := rfl

@[simp] theorem Control.modBreaker_sye (k : Control) (b : Breaker) (f : BreakerRec → BreakerRec) :
    (k.modBreaker b f).sye = k.sye := rfl

@[simp] theorem Control.modBreaker_bcu (k : Control) (b : Breaker) (f : BreakerRec → BreakerRec) :
    (k.modBreaker b f).bcu = k.bcu.modify b f := rfl

@[simp] theorem Control.modBreaker_tiu (k : Control) (b : Breaker) (f : BreakerRec → BreakerRec) :
    (k.modBreaker b f).tiu = k.tiu := rfl

@[simp] theorem Control.modBreaker_tsq (k : Control) (b : Breaker) (f : BreakerRec → BreakerRec) :
    (k.modBreaker b f).tsq = k.tsq := rfl

@[simp] theorem Control.modBreaker_gsc (k : Control) (b : Breaker) (f : BreakerRec → BreakerRec) :
    (k.modBreaker b f).gsc = k.gsc := rfl

@[simp] theorem Control.modBreaker_ldm (k : Control) (b : Breaker) (f : BreakerRec → BreakerRec) :
    (k.modBreaker b f).ldm = k.ldm := rfl

@[simp] theorem Control.modBreaker_pru (k : Control) (b : Breaker) (f : BreakerRec → BreakerRec) :
    (k.modBreaker b f).pru = k.pru := rfl

@[simp] theorem Control.modBreaker_cpi (k : Control) (b : Breaker) (f : BreakerRec → BreakerRec) :
    (k.modBreaker b f).cpi = k.cpi := rfl

@[simp] theorem Control.modBreaker_sst (k : Control) (b : Breaker) (f : BreakerRec → BreakerRec) :
    (k.modBreaker b f).sst = k.sst := rfl

@[simp] theorem Control.modBreaker_erq (k : Control) (b : Breaker) (f : BreakerRec → BreakerRec) :
    (k.modBreaker b f).erq = k.erq := rfl

@[simp] theorem Control.modBreaker_notices (k : Control) (b : Breaker) (f : BreakerRec → BreakerRec) :
    (k.modBreaker b f).notices = k.notices := rfl

/-! ### setAttempt -/

@[simp] theorem Control.setAttempt_smn (k : Control) (n : AttemptNo) (a : Attempt) :
    (k.setAttempt n a).smn = k.smn := rfl

@[simp] theorem Control.setAttempt_sye (k : Control) (n : AttemptNo) (a : Attempt) :
    (k.setAttempt n a).sye = { k.sye with slots := k.sye.slots.set n (some a) } := rfl

@[simp] theorem Control.setAttempt_bcu (k : Control) (n : AttemptNo) (a : Attempt) :
    (k.setAttempt n a).bcu = k.bcu := rfl

@[simp] theorem Control.setAttempt_tiu (k : Control) (n : AttemptNo) (a : Attempt) :
    (k.setAttempt n a).tiu = k.tiu := rfl

@[simp] theorem Control.setAttempt_tsq (k : Control) (n : AttemptNo) (a : Attempt) :
    (k.setAttempt n a).tsq = k.tsq := rfl

@[simp] theorem Control.setAttempt_gsc (k : Control) (n : AttemptNo) (a : Attempt) :
    (k.setAttempt n a).gsc = k.gsc := rfl

@[simp] theorem Control.setAttempt_ldm (k : Control) (n : AttemptNo) (a : Attempt) :
    (k.setAttempt n a).ldm = k.ldm := rfl

@[simp] theorem Control.setAttempt_pru (k : Control) (n : AttemptNo) (a : Attempt) :
    (k.setAttempt n a).pru = k.pru := rfl

@[simp] theorem Control.setAttempt_cpi (k : Control) (n : AttemptNo) (a : Attempt) :
    (k.setAttempt n a).cpi = k.cpi := rfl

@[simp] theorem Control.setAttempt_sst (k : Control) (n : AttemptNo) (a : Attempt) :
    (k.setAttempt n a).sst = k.sst := rfl

@[simp] theorem Control.setAttempt_erq (k : Control) (n : AttemptNo) (a : Attempt) :
    (k.setAttempt n a).erq = k.erq := rfl

@[simp] theorem Control.setAttempt_notices (k : Control) (n : AttemptNo) (a : Attempt) :
    (k.setAttempt n a).notices = k.notices := rfl

/-! ### setClaim -/

@[simp] theorem Control.setClaim_smn (k : Control) (c : ClaimBus) (v : Claim) :
    (k.setClaim c v).smn = k.smn := rfl

@[simp] theorem Control.setClaim_sye (k : Control) (c : ClaimBus) (v : Claim) :
    (k.setClaim c v).sye = k.sye := rfl

@[simp] theorem Control.setClaim_bcu (k : Control) (c : ClaimBus) (v : Claim) :
    (k.setClaim c v).bcu = k.bcu := rfl

@[simp] theorem Control.setClaim_tiu (k : Control) (c : ClaimBus) (v : Claim) :
    (k.setClaim c v).tiu = { k.tiu with claims := k.tiu.claims.set c v } := rfl

@[simp] theorem Control.setClaim_tsq (k : Control) (c : ClaimBus) (v : Claim) :
    (k.setClaim c v).tsq = k.tsq := rfl

@[simp] theorem Control.setClaim_gsc (k : Control) (c : ClaimBus) (v : Claim) :
    (k.setClaim c v).gsc = k.gsc := rfl

@[simp] theorem Control.setClaim_ldm (k : Control) (c : ClaimBus) (v : Claim) :
    (k.setClaim c v).ldm = k.ldm := rfl

@[simp] theorem Control.setClaim_pru (k : Control) (c : ClaimBus) (v : Claim) :
    (k.setClaim c v).pru = k.pru := rfl

@[simp] theorem Control.setClaim_cpi (k : Control) (c : ClaimBus) (v : Claim) :
    (k.setClaim c v).cpi = k.cpi := rfl

@[simp] theorem Control.setClaim_sst (k : Control) (c : ClaimBus) (v : Claim) :
    (k.setClaim c v).sst = k.sst := rfl

@[simp] theorem Control.setClaim_erq (k : Control) (c : ClaimBus) (v : Claim) :
    (k.setClaim c v).erq = k.erq := rfl

@[simp] theorem Control.setClaim_notices (k : Control) (c : ClaimBus) (v : Claim) :
    (k.setClaim c v).notices = k.notices := rfl

/-! ### modXfer -/

@[simp] theorem Control.modXfer_smn (k : Control) (l : Bus) (f : TransferRec → TransferRec) :
    (k.modXfer l f).smn = k.smn := rfl

@[simp] theorem Control.modXfer_sye (k : Control) (l : Bus) (f : TransferRec → TransferRec) :
    (k.modXfer l f).sye = k.sye := rfl

@[simp] theorem Control.modXfer_bcu (k : Control) (l : Bus) (f : TransferRec → TransferRec) :
    (k.modXfer l f).bcu = k.bcu := rfl

@[simp] theorem Control.modXfer_tiu (k : Control) (l : Bus) (f : TransferRec → TransferRec) :
    (k.modXfer l f).tiu = k.tiu := rfl

@[simp] theorem Control.modXfer_tsq (k : Control) (l : Bus) (f : TransferRec → TransferRec) :
    (k.modXfer l f).tsq = { k.tsq with records := k.tsq.records.modify l f } := rfl

@[simp] theorem Control.modXfer_gsc (k : Control) (l : Bus) (f : TransferRec → TransferRec) :
    (k.modXfer l f).gsc = k.gsc := rfl

@[simp] theorem Control.modXfer_ldm (k : Control) (l : Bus) (f : TransferRec → TransferRec) :
    (k.modXfer l f).ldm = k.ldm := rfl

@[simp] theorem Control.modXfer_pru (k : Control) (l : Bus) (f : TransferRec → TransferRec) :
    (k.modXfer l f).pru = k.pru := rfl

@[simp] theorem Control.modXfer_cpi (k : Control) (l : Bus) (f : TransferRec → TransferRec) :
    (k.modXfer l f).cpi = k.cpi := rfl

@[simp] theorem Control.modXfer_sst (k : Control) (l : Bus) (f : TransferRec → TransferRec) :
    (k.modXfer l f).sst = k.sst := rfl

@[simp] theorem Control.modXfer_erq (k : Control) (l : Bus) (f : TransferRec → TransferRec) :
    (k.modXfer l f).erq = k.erq := rfl

@[simp] theorem Control.modXfer_notices (k : Control) (l : Bus) (f : TransferRec → TransferRec) :
    (k.modXfer l f).notices = k.notices := rfl

/-! ### modSlot -/

@[simp] theorem Control.modSlot_smn (k : Control) (n : Slot) (f : SlotRec → SlotRec) :
    (k.modSlot n f).smn = k.smn := rfl

@[simp] theorem Control.modSlot_sye (k : Control) (n : Slot) (f : SlotRec → SlotRec) :
    (k.modSlot n f).sye = k.sye := rfl

@[simp] theorem Control.modSlot_bcu (k : Control) (n : Slot) (f : SlotRec → SlotRec) :
    (k.modSlot n f).bcu = k.bcu := rfl

@[simp] theorem Control.modSlot_tiu (k : Control) (n : Slot) (f : SlotRec → SlotRec) :
    (k.modSlot n f).tiu = k.tiu := rfl

@[simp] theorem Control.modSlot_tsq (k : Control) (n : Slot) (f : SlotRec → SlotRec) :
    (k.modSlot n f).tsq = k.tsq := rfl

@[simp] theorem Control.modSlot_gsc (k : Control) (n : Slot) (f : SlotRec → SlotRec) :
    (k.modSlot n f).gsc = { k.gsc with slots := k.gsc.slots.modify n f } := rfl

@[simp] theorem Control.modSlot_ldm (k : Control) (n : Slot) (f : SlotRec → SlotRec) :
    (k.modSlot n f).ldm = k.ldm := rfl

@[simp] theorem Control.modSlot_pru (k : Control) (n : Slot) (f : SlotRec → SlotRec) :
    (k.modSlot n f).pru = k.pru := rfl

@[simp] theorem Control.modSlot_cpi (k : Control) (n : Slot) (f : SlotRec → SlotRec) :
    (k.modSlot n f).cpi = k.cpi := rfl

@[simp] theorem Control.modSlot_sst (k : Control) (n : Slot) (f : SlotRec → SlotRec) :
    (k.modSlot n f).sst = k.sst := rfl

@[simp] theorem Control.modSlot_erq (k : Control) (n : Slot) (f : SlotRec → SlotRec) :
    (k.modSlot n f).erq = k.erq := rfl

@[simp] theorem Control.modSlot_notices (k : Control) (n : Slot) (f : SlotRec → SlotRec) :
    (k.modSlot n f).notices = k.notices := rfl

/-! ### modBlock -/

@[simp] theorem Control.modBlock_smn (k : Control) (b : Block) (f : BlockRec → BlockRec) :
    (k.modBlock b f).smn = k.smn := rfl

@[simp] theorem Control.modBlock_sye (k : Control) (b : Block) (f : BlockRec → BlockRec) :
    (k.modBlock b f).sye = k.sye := rfl

@[simp] theorem Control.modBlock_bcu (k : Control) (b : Block) (f : BlockRec → BlockRec) :
    (k.modBlock b f).bcu = k.bcu := rfl

@[simp] theorem Control.modBlock_tiu (k : Control) (b : Block) (f : BlockRec → BlockRec) :
    (k.modBlock b f).tiu = k.tiu := rfl

@[simp] theorem Control.modBlock_tsq (k : Control) (b : Block) (f : BlockRec → BlockRec) :
    (k.modBlock b f).tsq = k.tsq := rfl

@[simp] theorem Control.modBlock_gsc (k : Control) (b : Block) (f : BlockRec → BlockRec) :
    (k.modBlock b f).gsc = k.gsc := rfl

@[simp] theorem Control.modBlock_ldm (k : Control) (b : Block) (f : BlockRec → BlockRec) :
    (k.modBlock b f).ldm = { k.ldm with blocks := k.ldm.blocks.modify b f } := rfl

@[simp] theorem Control.modBlock_pru (k : Control) (b : Block) (f : BlockRec → BlockRec) :
    (k.modBlock b f).pru = k.pru := rfl

@[simp] theorem Control.modBlock_cpi (k : Control) (b : Block) (f : BlockRec → BlockRec) :
    (k.modBlock b f).cpi = k.cpi := rfl

@[simp] theorem Control.modBlock_sst (k : Control) (b : Block) (f : BlockRec → BlockRec) :
    (k.modBlock b f).sst = k.sst := rfl

@[simp] theorem Control.modBlock_erq (k : Control) (b : Block) (f : BlockRec → BlockRec) :
    (k.modBlock b f).erq = k.erq := rfl

@[simp] theorem Control.modBlock_notices (k : Control) (b : Block) (f : BlockRec → BlockRec) :
    (k.modBlock b f).notices = k.notices := rfl

/-! ### modProt -/

@[simp] theorem Control.modProt_smn (k : Control) (b : Breaker) (f : ProtectionRec → ProtectionRec) :
    (k.modProt b f).smn = k.smn := rfl

@[simp] theorem Control.modProt_sye (k : Control) (b : Breaker) (f : ProtectionRec → ProtectionRec) :
    (k.modProt b f).sye = k.sye := rfl

@[simp] theorem Control.modProt_bcu (k : Control) (b : Breaker) (f : ProtectionRec → ProtectionRec) :
    (k.modProt b f).bcu = k.bcu := rfl

@[simp] theorem Control.modProt_tiu (k : Control) (b : Breaker) (f : ProtectionRec → ProtectionRec) :
    (k.modProt b f).tiu = k.tiu := rfl

@[simp] theorem Control.modProt_tsq (k : Control) (b : Breaker) (f : ProtectionRec → ProtectionRec) :
    (k.modProt b f).tsq = k.tsq := rfl

@[simp] theorem Control.modProt_gsc (k : Control) (b : Breaker) (f : ProtectionRec → ProtectionRec) :
    (k.modProt b f).gsc = k.gsc := rfl

@[simp] theorem Control.modProt_ldm (k : Control) (b : Breaker) (f : ProtectionRec → ProtectionRec) :
    (k.modProt b f).ldm = k.ldm := rfl

@[simp] theorem Control.modProt_pru (k : Control) (b : Breaker) (f : ProtectionRec → ProtectionRec) :
    (k.modProt b f).pru = { k.pru with records := k.pru.records.modify b f } := rfl

@[simp] theorem Control.modProt_cpi (k : Control) (b : Breaker) (f : ProtectionRec → ProtectionRec) :
    (k.modProt b f).cpi = k.cpi := rfl

@[simp] theorem Control.modProt_sst (k : Control) (b : Breaker) (f : ProtectionRec → ProtectionRec) :
    (k.modProt b f).sst = k.sst := rfl

@[simp] theorem Control.modProt_erq (k : Control) (b : Breaker) (f : ProtectionRec → ProtectionRec) :
    (k.modProt b f).erq = k.erq := rfl

@[simp] theorem Control.modProt_notices (k : Control) (b : Breaker) (f : ProtectionRec → ProtectionRec) :
    (k.modProt b f).notices = k.notices := rfl

/-! ### modPort -/

@[simp] theorem Control.modPort_smn (k : Control) (p : Port) (f : PortRec → PortRec) :
    (k.modPort p f).smn = k.smn := rfl

@[simp] theorem Control.modPort_sye (k : Control) (p : Port) (f : PortRec → PortRec) :
    (k.modPort p f).sye = k.sye := rfl

@[simp] theorem Control.modPort_bcu (k : Control) (p : Port) (f : PortRec → PortRec) :
    (k.modPort p f).bcu = k.bcu := rfl

@[simp] theorem Control.modPort_tiu (k : Control) (p : Port) (f : PortRec → PortRec) :
    (k.modPort p f).tiu = k.tiu := rfl

@[simp] theorem Control.modPort_tsq (k : Control) (p : Port) (f : PortRec → PortRec) :
    (k.modPort p f).tsq = k.tsq := rfl

@[simp] theorem Control.modPort_gsc (k : Control) (p : Port) (f : PortRec → PortRec) :
    (k.modPort p f).gsc = k.gsc := rfl

@[simp] theorem Control.modPort_ldm (k : Control) (p : Port) (f : PortRec → PortRec) :
    (k.modPort p f).ldm = k.ldm := rfl

@[simp] theorem Control.modPort_pru (k : Control) (p : Port) (f : PortRec → PortRec) :
    (k.modPort p f).pru = k.pru := rfl

@[simp] theorem Control.modPort_cpi (k : Control) (p : Port) (f : PortRec → PortRec) :
    (k.modPort p f).cpi = { k.cpi with ports := k.cpi.ports.modify p f } := rfl

@[simp] theorem Control.modPort_sst (k : Control) (p : Port) (f : PortRec → PortRec) :
    (k.modPort p f).sst = k.sst := rfl

@[simp] theorem Control.modPort_erq (k : Control) (p : Port) (f : PortRec → PortRec) :
    (k.modPort p f).erq = k.erq := rfl

@[simp] theorem Control.modPort_notices (k : Control) (p : Port) (f : PortRec → PortRec) :
    (k.modPort p f).notices = k.notices := rfl

/-! ### modKey -/

@[simp] theorem Control.modKey_smn (k : Control) (key : Key) (f : KeyRec → KeyRec) :
    (k.modKey key f).smn = k.smn := rfl

@[simp] theorem Control.modKey_sye (k : Control) (key : Key) (f : KeyRec → KeyRec) :
    (k.modKey key f).sye = k.sye := rfl

@[simp] theorem Control.modKey_bcu (k : Control) (key : Key) (f : KeyRec → KeyRec) :
    (k.modKey key f).bcu = k.bcu := rfl

@[simp] theorem Control.modKey_tiu (k : Control) (key : Key) (f : KeyRec → KeyRec) :
    (k.modKey key f).tiu = k.tiu := rfl

@[simp] theorem Control.modKey_tsq (k : Control) (key : Key) (f : KeyRec → KeyRec) :
    (k.modKey key f).tsq = k.tsq := rfl

@[simp] theorem Control.modKey_gsc (k : Control) (key : Key) (f : KeyRec → KeyRec) :
    (k.modKey key f).gsc = k.gsc := rfl

@[simp] theorem Control.modKey_ldm (k : Control) (key : Key) (f : KeyRec → KeyRec) :
    (k.modKey key f).ldm = k.ldm := rfl

@[simp] theorem Control.modKey_pru (k : Control) (key : Key) (f : KeyRec → KeyRec) :
    (k.modKey key f).pru = k.pru := rfl

@[simp] theorem Control.modKey_cpi (k : Control) (key : Key) (f : KeyRec → KeyRec) :
    (k.modKey key f).cpi = { k.cpi with keys := k.cpi.keys.modify key f } := rfl

@[simp] theorem Control.modKey_sst (k : Control) (key : Key) (f : KeyRec → KeyRec) :
    (k.modKey key f).sst = k.sst := rfl

@[simp] theorem Control.modKey_erq (k : Control) (key : Key) (f : KeyRec → KeyRec) :
    (k.modKey key f).erq = k.erq := rfl

@[simp] theorem Control.modKey_notices (k : Control) (key : Key) (f : KeyRec → KeyRec) :
    (k.modKey key f).notices = k.notices := rfl

/-! ### tell -/

@[simp] theorem Control.tell_smn (k : Control) (ns : List Notice) :
    (k.tell ns).smn = k.smn := rfl

@[simp] theorem Control.tell_sye (k : Control) (ns : List Notice) :
    (k.tell ns).sye = k.sye := rfl

@[simp] theorem Control.tell_bcu (k : Control) (ns : List Notice) :
    (k.tell ns).bcu = k.bcu := rfl

@[simp] theorem Control.tell_tiu (k : Control) (ns : List Notice) :
    (k.tell ns).tiu = k.tiu := rfl

@[simp] theorem Control.tell_tsq (k : Control) (ns : List Notice) :
    (k.tell ns).tsq = k.tsq := rfl

@[simp] theorem Control.tell_gsc (k : Control) (ns : List Notice) :
    (k.tell ns).gsc = k.gsc := rfl

@[simp] theorem Control.tell_ldm (k : Control) (ns : List Notice) :
    (k.tell ns).ldm = k.ldm := rfl

@[simp] theorem Control.tell_pru (k : Control) (ns : List Notice) :
    (k.tell ns).pru = k.pru := rfl

@[simp] theorem Control.tell_cpi (k : Control) (ns : List Notice) :
    (k.tell ns).cpi = k.cpi := rfl

@[simp] theorem Control.tell_sst (k : Control) (ns : List Notice) :
    (k.tell ns).sst = k.sst := rfl

@[simp] theorem Control.tell_erq (k : Control) (ns : List Notice) :
    (k.tell ns).erq = k.erq := rfl

@[simp] theorem Control.tell_notices (k : Control) (ns : List Notice) :
    (k.tell ns).notices = k.notices ++ ns := rfl

/-! ### putLockout -/

@[simp] theorem Control.putLockout_smn (k : Control) (b : Breaker) (l : Lockout) :
    (k.putLockout b l).smn = k.smn := rfl

@[simp] theorem Control.putLockout_sye (k : Control) (b : Breaker) (l : Lockout) :
    (k.putLockout b l).sye = k.sye := rfl

@[simp] theorem Control.putLockout_bcu (k : Control) (b : Breaker) (l : Lockout) :
    (k.putLockout b l).bcu = k.bcu := rfl

@[simp] theorem Control.putLockout_tiu (k : Control) (b : Breaker) (l : Lockout) :
    (k.putLockout b l).tiu = k.tiu := rfl

@[simp] theorem Control.putLockout_tsq (k : Control) (b : Breaker) (l : Lockout) :
    (k.putLockout b l).tsq = k.tsq := rfl

@[simp] theorem Control.putLockout_gsc (k : Control) (b : Breaker) (l : Lockout) :
    (k.putLockout b l).gsc = k.gsc := rfl

@[simp] theorem Control.putLockout_ldm (k : Control) (b : Breaker) (l : Lockout) :
    (k.putLockout b l).ldm = k.ldm := rfl

@[simp] theorem Control.putLockout_pru (k : Control) (b : Breaker) (l : Lockout) :
    (k.putLockout b l).pru = k.pru := rfl

@[simp] theorem Control.putLockout_cpi (k : Control) (b : Breaker) (l : Lockout) :
    (k.putLockout b l).cpi = k.cpi := rfl

@[simp] theorem Control.putLockout_sst (k : Control) (b : Breaker) (l : Lockout) :
    (k.putLockout b l).sst = { k.sst with working := { k.sst.working with lockout := k.sst.working.lockout.set b l } } := rfl

@[simp] theorem Control.putLockout_erq (k : Control) (b : Breaker) (l : Lockout) :
    (k.putLockout b l).erq = k.erq := rfl

@[simp] theorem Control.putLockout_notices (k : Control) (b : Breaker) (l : Lockout) :
    (k.putLockout b l).notices = k.notices := rfl

/-! ### putWorking -/

@[simp] theorem Control.putWorking_smn (k : Control) (d : StoreData) :
    (k.putWorking d).smn = k.smn := rfl

@[simp] theorem Control.putWorking_sye (k : Control) (d : StoreData) :
    (k.putWorking d).sye = k.sye := rfl

@[simp] theorem Control.putWorking_bcu (k : Control) (d : StoreData) :
    (k.putWorking d).bcu = k.bcu := rfl

@[simp] theorem Control.putWorking_tiu (k : Control) (d : StoreData) :
    (k.putWorking d).tiu = k.tiu := rfl

@[simp] theorem Control.putWorking_tsq (k : Control) (d : StoreData) :
    (k.putWorking d).tsq = k.tsq := rfl

@[simp] theorem Control.putWorking_gsc (k : Control) (d : StoreData) :
    (k.putWorking d).gsc = k.gsc := rfl

@[simp] theorem Control.putWorking_ldm (k : Control) (d : StoreData) :
    (k.putWorking d).ldm = k.ldm := rfl

@[simp] theorem Control.putWorking_pru (k : Control) (d : StoreData) :
    (k.putWorking d).pru = k.pru := rfl

@[simp] theorem Control.putWorking_cpi (k : Control) (d : StoreData) :
    (k.putWorking d).cpi = k.cpi := rfl

@[simp] theorem Control.putWorking_sst (k : Control) (d : StoreData) :
    (k.putWorking d).sst = { k.sst with working := d } := rfl

@[simp] theorem Control.putWorking_erq (k : Control) (d : StoreData) :
    (k.putWorking d).erq = k.erq := rfl

@[simp] theorem Control.putWorking_notices (k : Control) (d : StoreData) :
    (k.putWorking d).notices = k.notices := rfl

/-! ### modHealth -/

@[simp] theorem Control.modHealth_smn (k : Control) (u : Utility) (f : HealthRec → HealthRec) :
    (k.modHealth u f).smn = { k.smn with health := k.smn.health.modify u f } := rfl

@[simp] theorem Control.modHealth_sye (k : Control) (u : Utility) (f : HealthRec → HealthRec) :
    (k.modHealth u f).sye = k.sye := rfl

@[simp] theorem Control.modHealth_bcu (k : Control) (u : Utility) (f : HealthRec → HealthRec) :
    (k.modHealth u f).bcu = k.bcu := rfl

@[simp] theorem Control.modHealth_tiu (k : Control) (u : Utility) (f : HealthRec → HealthRec) :
    (k.modHealth u f).tiu = k.tiu := rfl

@[simp] theorem Control.modHealth_tsq (k : Control) (u : Utility) (f : HealthRec → HealthRec) :
    (k.modHealth u f).tsq = k.tsq := rfl

@[simp] theorem Control.modHealth_gsc (k : Control) (u : Utility) (f : HealthRec → HealthRec) :
    (k.modHealth u f).gsc = k.gsc := rfl

@[simp] theorem Control.modHealth_ldm (k : Control) (u : Utility) (f : HealthRec → HealthRec) :
    (k.modHealth u f).ldm = k.ldm := rfl

@[simp] theorem Control.modHealth_pru (k : Control) (u : Utility) (f : HealthRec → HealthRec) :
    (k.modHealth u f).pru = k.pru := rfl

@[simp] theorem Control.modHealth_cpi (k : Control) (u : Utility) (f : HealthRec → HealthRec) :
    (k.modHealth u f).cpi = k.cpi := rfl

@[simp] theorem Control.modHealth_sst (k : Control) (u : Utility) (f : HealthRec → HealthRec) :
    (k.modHealth u f).sst = k.sst := rfl

@[simp] theorem Control.modHealth_erq (k : Control) (u : Utility) (f : HealthRec → HealthRec) :
    (k.modHealth u f).erq = k.erq := rfl

@[simp] theorem Control.modHealth_notices (k : Control) (u : Utility) (f : HealthRec → HealthRec) :
    (k.modHealth u f).notices = k.notices := rfl

/-! ### setOverload -/

@[simp] theorem Control.setOverload_smn (k : Control) (t : Timer) :
    (k.setOverload t).smn = k.smn := rfl

@[simp] theorem Control.setOverload_sye (k : Control) (t : Timer) :
    (k.setOverload t).sye = k.sye := rfl

@[simp] theorem Control.setOverload_bcu (k : Control) (t : Timer) :
    (k.setOverload t).bcu = k.bcu := rfl

@[simp] theorem Control.setOverload_tiu (k : Control) (t : Timer) :
    (k.setOverload t).tiu = k.tiu := rfl

@[simp] theorem Control.setOverload_tsq (k : Control) (t : Timer) :
    (k.setOverload t).tsq = k.tsq := rfl

@[simp] theorem Control.setOverload_gsc (k : Control) (t : Timer) :
    (k.setOverload t).gsc = k.gsc := rfl

@[simp] theorem Control.setOverload_ldm (k : Control) (t : Timer) :
    (k.setOverload t).ldm = { k.ldm with overload := t } := rfl

@[simp] theorem Control.setOverload_pru (k : Control) (t : Timer) :
    (k.setOverload t).pru = k.pru := rfl

@[simp] theorem Control.setOverload_cpi (k : Control) (t : Timer) :
    (k.setOverload t).cpi = k.cpi := rfl

@[simp] theorem Control.setOverload_sst (k : Control) (t : Timer) :
    (k.setOverload t).sst = k.sst := rfl

@[simp] theorem Control.setOverload_erq (k : Control) (t : Timer) :
    (k.setOverload t).erq = k.erq := rfl

@[simp] theorem Control.setOverload_notices (k : Control) (t : Timer) :
    (k.setOverload t).notices = k.notices := rfl

/-! ### setUf -/

@[simp] theorem Control.setUf_smn (k : Control) (st : UfStage) (t : Timer) :
    (k.setUf st t).smn = k.smn := rfl

@[simp] theorem Control.setUf_sye (k : Control) (st : UfStage) (t : Timer) :
    (k.setUf st t).sye = k.sye := rfl

@[simp] theorem Control.setUf_bcu (k : Control) (st : UfStage) (t : Timer) :
    (k.setUf st t).bcu = k.bcu := rfl

@[simp] theorem Control.setUf_tiu (k : Control) (st : UfStage) (t : Timer) :
    (k.setUf st t).tiu = k.tiu := rfl

@[simp] theorem Control.setUf_tsq (k : Control) (st : UfStage) (t : Timer) :
    (k.setUf st t).tsq = k.tsq := rfl

@[simp] theorem Control.setUf_gsc (k : Control) (st : UfStage) (t : Timer) :
    (k.setUf st t).gsc = k.gsc := rfl

@[simp] theorem Control.setUf_ldm (k : Control) (st : UfStage) (t : Timer) :
    (k.setUf st t).ldm = { k.ldm with uf := k.ldm.uf.set st t } := rfl

@[simp] theorem Control.setUf_pru (k : Control) (st : UfStage) (t : Timer) :
    (k.setUf st t).pru = k.pru := rfl

@[simp] theorem Control.setUf_cpi (k : Control) (st : UfStage) (t : Timer) :
    (k.setUf st t).cpi = k.cpi := rfl

@[simp] theorem Control.setUf_sst (k : Control) (st : UfStage) (t : Timer) :
    (k.setUf st t).sst = k.sst := rfl

@[simp] theorem Control.setUf_erq (k : Control) (st : UfStage) (t : Timer) :
    (k.setUf st t).erq = k.erq := rfl

@[simp] theorem Control.setUf_notices (k : Control) (st : UfStage) (t : Timer) :
    (k.setUf st t).notices = k.notices := rfl

/-! ### putBuffer -/

@[simp] theorem Control.putBuffer_smn (k : Control) (b : CurveBuffer) :
    (k.putBuffer b).smn = k.smn := rfl

@[simp] theorem Control.putBuffer_sye (k : Control) (b : CurveBuffer) :
    (k.putBuffer b).sye = k.sye := rfl

@[simp] theorem Control.putBuffer_bcu (k : Control) (b : CurveBuffer) :
    (k.putBuffer b).bcu = k.bcu := rfl

@[simp] theorem Control.putBuffer_tiu (k : Control) (b : CurveBuffer) :
    (k.putBuffer b).tiu = k.tiu := rfl

@[simp] theorem Control.putBuffer_tsq (k : Control) (b : CurveBuffer) :
    (k.putBuffer b).tsq = k.tsq := rfl

@[simp] theorem Control.putBuffer_gsc (k : Control) (b : CurveBuffer) :
    (k.putBuffer b).gsc = k.gsc := rfl

@[simp] theorem Control.putBuffer_ldm (k : Control) (b : CurveBuffer) :
    (k.putBuffer b).ldm = k.ldm := rfl

@[simp] theorem Control.putBuffer_pru (k : Control) (b : CurveBuffer) :
    (k.putBuffer b).pru = { k.pru with buffer := b } := rfl

@[simp] theorem Control.putBuffer_cpi (k : Control) (b : CurveBuffer) :
    (k.putBuffer b).cpi = k.cpi := rfl

@[simp] theorem Control.putBuffer_sst (k : Control) (b : CurveBuffer) :
    (k.putBuffer b).sst = k.sst := rfl

@[simp] theorem Control.putBuffer_erq (k : Control) (b : CurveBuffer) :
    (k.putBuffer b).erq = k.erq := rfl

@[simp] theorem Control.putBuffer_notices (k : Control) (b : CurveBuffer) :
    (k.putBuffer b).notices = k.notices := rfl

/-! ### setCursor -/

@[simp] theorem Control.setCursor_smn (k : Control) (p : Port) (n : Word16) :
    (k.setCursor p n).smn = k.smn := rfl

@[simp] theorem Control.setCursor_sye (k : Control) (p : Port) (n : Word16) :
    (k.setCursor p n).sye = k.sye := rfl

@[simp] theorem Control.setCursor_bcu (k : Control) (p : Port) (n : Word16) :
    (k.setCursor p n).bcu = k.bcu := rfl

@[simp] theorem Control.setCursor_tiu (k : Control) (p : Port) (n : Word16) :
    (k.setCursor p n).tiu = k.tiu := rfl

@[simp] theorem Control.setCursor_tsq (k : Control) (p : Port) (n : Word16) :
    (k.setCursor p n).tsq = k.tsq := rfl

@[simp] theorem Control.setCursor_gsc (k : Control) (p : Port) (n : Word16) :
    (k.setCursor p n).gsc = k.gsc := rfl

@[simp] theorem Control.setCursor_ldm (k : Control) (p : Port) (n : Word16) :
    (k.setCursor p n).ldm = k.ldm := rfl

@[simp] theorem Control.setCursor_pru (k : Control) (p : Port) (n : Word16) :
    (k.setCursor p n).pru = k.pru := rfl

@[simp] theorem Control.setCursor_cpi (k : Control) (p : Port) (n : Word16) :
    (k.setCursor p n).cpi = k.cpi := rfl

@[simp] theorem Control.setCursor_sst (k : Control) (p : Port) (n : Word16) :
    (k.setCursor p n).sst = k.sst := rfl

@[simp] theorem Control.setCursor_erq (k : Control) (p : Port) (n : Word16) :
    (k.setCursor p n).erq = { k.erq with cursors := k.erq.cursors.set p n } := rfl

@[simp] theorem Control.setCursor_notices (k : Control) (p : Port) (n : Word16) :
    (k.setCursor p n).notices = k.notices := rfl

/-! ### respond -/

@[simp] theorem Control.respond_smn (k : Control) (p : Port) (r : Response) :
    (k.respond p r).smn = k.smn := rfl

@[simp] theorem Control.respond_sye (k : Control) (p : Port) (r : Response) :
    (k.respond p r).sye = k.sye := rfl

@[simp] theorem Control.respond_bcu (k : Control) (p : Port) (r : Response) :
    (k.respond p r).bcu = k.bcu := rfl

@[simp] theorem Control.respond_tiu (k : Control) (p : Port) (r : Response) :
    (k.respond p r).tiu = k.tiu := rfl

@[simp] theorem Control.respond_tsq (k : Control) (p : Port) (r : Response) :
    (k.respond p r).tsq = k.tsq := rfl

@[simp] theorem Control.respond_gsc (k : Control) (p : Port) (r : Response) :
    (k.respond p r).gsc = k.gsc := rfl

@[simp] theorem Control.respond_ldm (k : Control) (p : Port) (r : Response) :
    (k.respond p r).ldm = k.ldm := rfl

@[simp] theorem Control.respond_pru (k : Control) (p : Port) (r : Response) :
    (k.respond p r).pru = k.pru := rfl

@[simp] theorem Control.respond_cpi (k : Control) (p : Port) (r : Response) :
    (k.respond p r).cpi = { k.cpi with ports := k.cpi.ports.modify p fun c => { c with response := some r, assembly := [], discarding := false } } := rfl

@[simp] theorem Control.respond_sst (k : Control) (p : Port) (r : Response) :
    (k.respond p r).sst = k.sst := rfl

@[simp] theorem Control.respond_erq (k : Control) (p : Port) (r : Response) :
    (k.respond p r).erq = k.erq := rfl

@[simp] theorem Control.respond_notices (k : Control) (p : Port) (r : Response) :
    (k.respond p r).notices = k.notices := rfl

/-! ### setRole -/

@[simp] theorem Control.setRole_smn (k : Control) (p : Port) (r : Role) (t : Timer) :
    (k.setRole p r t).smn = k.smn := rfl

@[simp] theorem Control.setRole_sye (k : Control) (p : Port) (r : Role) (t : Timer) :
    (k.setRole p r t).sye = k.sye := rfl

@[simp] theorem Control.setRole_bcu (k : Control) (p : Port) (r : Role) (t : Timer) :
    (k.setRole p r t).bcu = k.bcu := rfl

@[simp] theorem Control.setRole_tiu (k : Control) (p : Port) (r : Role) (t : Timer) :
    (k.setRole p r t).tiu = k.tiu := rfl

@[simp] theorem Control.setRole_tsq (k : Control) (p : Port) (r : Role) (t : Timer) :
    (k.setRole p r t).tsq = k.tsq := rfl

@[simp] theorem Control.setRole_gsc (k : Control) (p : Port) (r : Role) (t : Timer) :
    (k.setRole p r t).gsc = k.gsc := rfl

@[simp] theorem Control.setRole_ldm (k : Control) (p : Port) (r : Role) (t : Timer) :
    (k.setRole p r t).ldm = k.ldm := rfl

@[simp] theorem Control.setRole_pru (k : Control) (p : Port) (r : Role) (t : Timer) :
    (k.setRole p r t).pru = k.pru := rfl

@[simp] theorem Control.setRole_cpi (k : Control) (p : Port) (r : Role) (t : Timer) :
    (k.setRole p r t).cpi = { k.cpi with ports := k.cpi.ports.modify p fun c => { c with role := r, lapse := t } } := rfl

@[simp] theorem Control.setRole_sst (k : Control) (p : Port) (r : Role) (t : Timer) :
    (k.setRole p r t).sst = k.sst := rfl

@[simp] theorem Control.setRole_erq (k : Control) (p : Port) (r : Role) (t : Timer) :
    (k.setRole p r t).erq = k.erq := rfl

@[simp] theorem Control.setRole_notices (k : Control) (p : Port) (r : Role) (t : Timer) :
    (k.setRole p r t).notices = k.notices := rfl

/-! ### record -/

@[simp] theorem Control.record_smn (k : Control) (e : Sensed) (kind : EventKind) (subject : Subject)
    (cause : Cause) (value : Int) : (k.record e kind subject cause value).smn = k.smn := rfl

@[simp] theorem Control.record_sye (k : Control) (e : Sensed) (kind : EventKind) (subject : Subject)
    (cause : Cause) (value : Int) : (k.record e kind subject cause value).sye = k.sye := rfl

@[simp] theorem Control.record_bcu (k : Control) (e : Sensed) (kind : EventKind) (subject : Subject)
    (cause : Cause) (value : Int) : (k.record e kind subject cause value).bcu = k.bcu := rfl

@[simp] theorem Control.record_tiu (k : Control) (e : Sensed) (kind : EventKind) (subject : Subject)
    (cause : Cause) (value : Int) : (k.record e kind subject cause value).tiu = k.tiu := rfl

@[simp] theorem Control.record_tsq (k : Control) (e : Sensed) (kind : EventKind) (subject : Subject)
    (cause : Cause) (value : Int) : (k.record e kind subject cause value).tsq = k.tsq := rfl

@[simp] theorem Control.record_gsc (k : Control) (e : Sensed) (kind : EventKind) (subject : Subject)
    (cause : Cause) (value : Int) : (k.record e kind subject cause value).gsc = k.gsc := rfl

@[simp] theorem Control.record_ldm (k : Control) (e : Sensed) (kind : EventKind) (subject : Subject)
    (cause : Cause) (value : Int) : (k.record e kind subject cause value).ldm = k.ldm := rfl

@[simp] theorem Control.record_pru (k : Control) (e : Sensed) (kind : EventKind) (subject : Subject)
    (cause : Cause) (value : Int) : (k.record e kind subject cause value).pru = k.pru := rfl

@[simp] theorem Control.record_cpi (k : Control) (e : Sensed) (kind : EventKind) (subject : Subject)
    (cause : Cause) (value : Int) : (k.record e kind subject cause value).cpi = k.cpi := rfl

@[simp] theorem Control.record_sst (k : Control) (e : Sensed) (kind : EventKind) (subject : Subject)
    (cause : Cause) (value : Int) : (k.record e kind subject cause value).sst = k.sst := rfl

@[simp] theorem Control.record_erq (k : Control) (e : Sensed) (kind : EventKind) (subject : Subject)
    (cause : Cause) (value : Int) : (k.record e kind subject cause value).erq = k.erq.append e.now kind subject cause value := rfl

@[simp] theorem Control.record_notices (k : Control) (e : Sensed) (kind : EventKind) (subject : Subject)
    (cause : Cause) (value : Int) : (k.record e kind subject cause value).notices = k.notices := rfl

/-! ### Reading a record after it has been changed -/

@[simp] theorem Control.breaker_modBreaker_same (k : Control) (i : Breaker) (f : BreakerRec → BreakerRec) :
    (k.modBreaker i f).breaker i = f (k.breaker i) := PerBreaker.get_modify_same _ i f

theorem Control.breaker_modBreaker_other (k : Control) {i j : Breaker} (f : BreakerRec → BreakerRec) (h : j ≠ i) :
    (k.modBreaker i f).breaker j = k.breaker j := PerBreaker.get_modify_other _ f h

@[simp] theorem Control.xfer_modXfer_same (k : Control) (i : Bus) (f : TransferRec → TransferRec) :
    (k.modXfer i f).xfer i = f (k.xfer i) := PerBus.get_modify_same _ i f

theorem Control.xfer_modXfer_other (k : Control) {i j : Bus} (f : TransferRec → TransferRec) (h : j ≠ i) :
    (k.modXfer i f).xfer j = k.xfer j := PerBus.get_modify_other _ f h

@[simp] theorem Control.slot_modSlot_same (k : Control) (i : Slot) (f : SlotRec → SlotRec) :
    (k.modSlot i f).slot i = f (k.slot i) := PerSlot.get_modify_same _ i f

theorem Control.slot_modSlot_other (k : Control) {i j : Slot} (f : SlotRec → SlotRec) (h : j ≠ i) :
    (k.modSlot i f).slot j = k.slot j := PerSlot.get_modify_other _ f h

@[simp] theorem Control.blockRec_modBlock_same (k : Control) (i : Block) (f : BlockRec → BlockRec) :
    (k.modBlock i f).blockRec i = f (k.blockRec i) := PerBlock.get_modify_same _ i f

theorem Control.blockRec_modBlock_other (k : Control) {i j : Block} (f : BlockRec → BlockRec) (h : j ≠ i) :
    (k.modBlock i f).blockRec j = k.blockRec j := PerBlock.get_modify_other _ f h

@[simp] theorem Control.prot_modProt_same (k : Control) (i : Breaker) (f : ProtectionRec → ProtectionRec) :
    (k.modProt i f).prot i = f (k.prot i) := PerBreaker.get_modify_same _ i f

theorem Control.prot_modProt_other (k : Control) {i j : Breaker} (f : ProtectionRec → ProtectionRec) (h : j ≠ i) :
    (k.modProt i f).prot j = k.prot j := PerBreaker.get_modify_other _ f h

@[simp] theorem Control.port_modPort_same (k : Control) (i : Port) (f : PortRec → PortRec) :
    (k.modPort i f).port i = f (k.port i) := PerPort.get_modify_same _ i f

theorem Control.port_modPort_other (k : Control) {i j : Port} (f : PortRec → PortRec) (h : j ≠ i) :
    (k.modPort i f).port j = k.port j := PerPort.get_modify_other _ f h

@[simp] theorem Control.lockout_putLockout_same (k : Control) (b : Breaker) (l : Lockout) :
    (k.putLockout b l).lockout b = l := PerBreaker.get_set_same _ b l

theorem Control.lockout_putLockout_other (k : Control) {b c : Breaker} (l : Lockout) (h : c ≠ b) :
    (k.putLockout b l).lockout c = k.lockout c := PerBreaker.get_set_other _ l h

@[simp] theorem Control.attempt_setAttempt_same (k : Control) (n : AttemptNo) (a : Attempt) :
    (k.setAttempt n a).attempt n = some a := PerAttempt.get_set_same _ n _

theorem Control.attempt_setAttempt_other (k : Control) {n m : AttemptNo} (a : Attempt) (h : m ≠ n) :
    (k.setAttempt n a).attempt m = k.attempt m := PerAttempt.get_set_other _ _ h

@[simp] theorem Control.claim_setClaim_same (k : Control) (c : ClaimBus) (v : Claim) :
    (k.setClaim c v).claim c = v := PerClaimBus.get_set_same _ c v

theorem Control.claim_setClaim_other (k : Control) {c d : ClaimBus} (v : Claim) (h : d ≠ c) :
    (k.setClaim c v).claim d = k.claim d := PerClaimBus.get_set_other _ v h

/-! ### assembling -/

@[simp] theorem Control.assembling_cpi (k : Control) (p : Port) (frame : List Byte) :
    (k.assembling p frame).cpi =
      { k.cpi with ports := k.cpi.ports.modify p fun c => { c with assembly := frame } } := rfl

@[simp] theorem Control.assembling_sst (k : Control) (p : Port) (frame : List Byte) :
    (k.assembling p frame).sst = k.sst := rfl

@[simp] theorem Control.assembling_erq (k : Control) (p : Port) (frame : List Byte) :
    (k.assembling p frame).erq = k.erq := rfl

/-! ### The queue of events -/

/-- A queue that is not full keeps every record and gains one at its end. -/
theorem Erq.append_events (q : Erq) (t : Word32) (kind : EventKind) (subject : Subject) (cause : Cause) (value : Int)
    (h : q.events.length < 128) :
    (q.append t kind subject cause value).events =
      q.events ++ [{ seq := q.nextSeq, time := t, kind := kind, subject := subject, cause := cause, value := value }] := by
  simp [Erq.append, h]

/-- Each record takes the next sequence number. -/
theorem Erq.append_nextSeq (q : Erq) (t : Word32) (kind : EventKind) (subject : Subject) (cause : Cause) (value : Int) :
    (q.append t kind subject cause value).nextSeq = q.nextSeq + 1 := by
  unfold Erq.append
  split
  · rfl
  · split <;> rfl

/-- The newest record of a queue just appended to. -/
theorem Erq.append_last (q : Erq) (t : Word32) (kind : EventKind) (subject : Subject) (cause : Cause) (value : Int) :
    (q.append t kind subject cause value).events.getLast? =
      some { seq := q.nextSeq, time := t, kind := kind, subject := subject, cause := cause, value := value } := by
  unfold Erq.append
  split
  · simp
  · split <;> simp

/-- A queue never holds more than 128 records. -/
theorem Erq.append_length (q : Erq) (t : Word32) (kind : EventKind) (subject : Subject) (cause : Cause) (value : Int)
    (h : q.events.length ≤ 128) : (q.append t kind subject cause value).events.length ≤ 128 := by
  unfold Erq.append
  split
  · simp; omega
  · split <;> simp_all

/-! ### Steps -/

@[simp] theorem step_front (s : State) (i : Instr) (rest : List Instr) (h : s.pending = i :: rest) :
    step s = exec i { s with pending := rest } := by
  simp [step, h]

/-- While reset is asserted, an operation of the blocks changes nothing. -/
@[simp] theorem State.act_inReset (s : State) (f : Control → Control) (h : s.inReset = true) : s.act f = .next s := by
  simp [State.act, h]

/-- Outside reset, an operation of the blocks is applied with all that follows from it. -/
theorem State.act_running (s : State) (f : Control → Control) (h : s.inReset = false) :
    s.act f = .next { s with control := s.control.run s.sensed f } := by
  simp [State.act, h]

/-- With nothing to take up, nothing more happens. -/
@[simp] theorem Control.settle_quiet (e : Sensed) (n : Nat) (k : Control) (h : k.notices = []) : k.settle e n = k := by
  cases n <;> simp [Control.settle, h]

/-- An operation after which nothing is told is the whole of its step. -/
theorem Control.run_quiet (e : Sensed) (k : Control) (f : Control → Control) (h : (f k.begun).notices = []) :
    k.run e f = f k.begun :=
  Control.settle_quiet e cascadeLimit _ h

end Sys2Proof.Machine
end

