-- ==== Sys2Proof/Laws/Kept.lean ====
section
/-! SUPPORT. What the blocks' work on notices leaves as it was. -/

namespace Sys2Proof.Machine

@[simp] theorem BreakerRec.held_eq (r : BreakerRec) :
    r.held = ⟨r.closedMade, r.openMade, r.settle, r.settled, r.observed, r.closeBlocked, r.openFailed, r.opCount⟩ := by
  cases r; rfl

/-- The first member of a pair taken apart. -/
theorem fst_of_eq {α β : Type} {p : α × β} {a : α} {b : β} (h : p = (a, b)) : a = p.1 := by rw [h]

/-! ## The named updates -/

@[simp] theorem Control.modBreaker_held (k : Control) (b : Breaker) (f : BreakerRec → BreakerRec)
    (h : ∀ r, (f r).held = r.held) : (k.modBreaker b f).held = k.held := by
  have hb : (PerBreaker.ofFn fun c => ((k.modBreaker b f).breaker c).held) = .ofFn fun c => (k.breaker c).held := by
    apply PerBreaker.ext_get
    intro c
    by_cases hc : c = b
    · subst hc; rw [PerBreaker.get_ofFn, PerBreaker.get_ofFn, Control.breaker_modBreaker_same, h]
    · rw [PerBreaker.get_ofFn, PerBreaker.get_ofFn, Control.breaker_modBreaker_other k f hc]
  simp only [Control.held, hb]
  rfl

@[simp] theorem Control.modSlot_held (k : Control) (n : Slot) (f : SlotRec → SlotRec)
    (h : ∀ r, (f r).ready = r.ready) : (k.modSlot n f).held = k.held := by
  have hb : ∀ c, ((k.modSlot n f).slot c).ready = (k.slot c).ready := by
    intro c
    by_cases hc : c = n
    · subst hc; simp [h]
    · rw [Control.slot_modSlot_other k f hc]
  simp [Control.held, hb, Control.breaker]

@[simp] theorem Control.setAttempt_held (k : Control) (n : AttemptNo) (a : Attempt) :
    (k.setAttempt n a).held = k.held := rfl

@[simp] theorem Control.setClaim_held (k : Control) (c : ClaimBus) (v : Claim) : (k.setClaim c v).held = k.held := rfl

@[simp] theorem Control.modXfer_held (k : Control) (l : Bus) (f : TransferRec → TransferRec) :
    (k.modXfer l f).held = k.held := rfl

@[simp] theorem Control.modBlock_held (k : Control) (b : Block) (f : BlockRec → BlockRec) :
    (k.modBlock b f).held = k.held := rfl

@[simp] theorem Control.modProt_held (k : Control) (b : Breaker) (f : ProtectionRec → ProtectionRec) :
    (k.modProt b f).held = k.held := rfl

@[simp] theorem Control.tell_held (k : Control) (ns : List Notice) : (k.tell ns).held = k.held := rfl

@[simp] theorem Control.putLockout_held (k : Control) (b : Breaker) (l : Lockout) :
    (k.putLockout b l).held = k.held := rfl

@[simp] theorem Control.record_held (k : Control) (e : Sensed) (kind : EventKind) (subject : Subject) (cause : Cause)
    (value : Int) : (k.record e kind subject cause value).held = k.held := rfl

@[simp] theorem Control.startWrite_lockout_held (k : Control) (e : Sensed) (bs : List Breaker) :
    (k.startWrite e (.lockout bs)).held = k.held := rfl

@[simp] theorem SlotRec.enter_ready (e : Sensed) (k : Control) (r : SlotRec) (state : SlotState) (cause : Cause) :
    (r.enter e k state cause).ready = r.ready := by
  unfold SlotRec.enter
  dsimp only
  split <;> rfl

/-! ### Whole blocks replaced -/

@[simp] theorem Control.held_smn (k : Control) (x : Smn) : ({ k with smn := x } : Control).held = k.held := rfl

@[simp] theorem Control.held_sye (k : Control) (x : Sye) : ({ k with sye := x } : Control).held = k.held := rfl

@[simp] theorem Control.held_ldm (k : Control) (x : Ldm) : ({ k with ldm := x } : Control).held = k.held := rfl

@[simp] theorem Control.held_erq (k : Control) (x : Erq) : ({ k with erq := x } : Control).held = k.held := rfl

@[simp] theorem Control.held_notices (k : Control) (x : List Notice) :
    ({ k with notices := x } : Control).held = k.held := rfl

@[simp] theorem Control.held_tiu (k : Control) (x : Tiu) (h : x.formed = k.tiu.formed) :
    ({ k with tiu := x } : Control).held = k.held := by
  simp only [Control.held, h]
  rfl

@[simp] theorem Control.held_tsq (k : Control) (x : Tsq) (h1 : x.hold = k.tsq.hold)
    (h2 : x.startUpDelay = k.tsq.startUpDelay) (h3 : x.startUpEnded = k.tsq.startUpEnded) :
    ({ k with tsq := x } : Control).held = k.held := by
  simp only [Control.held, h1, h2, h3]
  rfl

/-- An operation applied for each member of a list keeps what each application keeps. -/
@[simp] theorem forEach_held {α : Type} (l : List α) (f : α → Control → Control) (k : Control)
    (h : ∀ a k, (f a k).held = k.held) : (forEach l f k).held = k.held := by
  unfold forEach
  induction l generalizing k with
  | nil => rfl
  | cons a l ih => simp [ih, h]

@[simp] theorem Control.recordNoCause_held (e : Sensed) (k : Control) (kind : EventKind) (subject : Subject) (value : Int) :
    (Control.recordNoCause e k kind subject value).held = k.held := by
  rfl

@[simp] theorem Control.recordSubject_held (e : Sensed) (k : Control) (kind : EventKind) (subject : Subject) :
    (Control.recordSubject e k kind subject).held = k.held := by
  rfl

@[simp] theorem Control.recordKind_held (e : Sensed) (k : Control) (kind : EventKind) :
    (Control.recordKind e k kind).held = k.held := by
  rfl

@[simp] theorem Control.handLockout_held (e : Sensed) (k : Control) (b : Breaker) :
    (Control.handLockout e k b).held = k.held := by
  unfold Control.handLockout
  try dsimp only
  repeat' split
  all_goals rfl

@[simp] theorem Control.storeFaults_held (e : Sensed) (k : Control) (x0 : WriteKind) :
    (Control.storeFaults e k x0).held = k.held := by
  cases x0 <;> unfold Control.storeFaults
  case lockout bs => apply forEach_held; intro a k; rfl
  all_goals rfl

@[simp] theorem Control.changeLockout_held (e : Sensed) (k : Control) (b : Breaker) (c : Cause) :
    (Control.changeLockout e k b c).held = k.held := by
  simp [Control.changeLockout]

@[simp] theorem Control.setLockout_held (e : Sensed) (k : Control) (b : Breaker) (c : Cause) :
    (Control.setLockout e k b c).held = k.held := by
  unfold Control.setLockout
  try dsimp only
  repeat' split
  all_goals simp

@[simp] theorem Control.startFailure_held (e : Sensed) (k : Control) (b : Breaker) :
    (Control.startFailure e k b).held = k.held := by
  unfold Control.startFailure
  try dsimp only
  repeat' split
  all_goals simp

@[simp] theorem Control.tripTaken_held (e : Sensed) (k : Control) (b : Breaker) (c : Cause) :
    (Control.tripTaken e k b c).held = k.held := by
  unfold Control.tripTaken
  try dsimp only
  repeat' split
  all_goals simp

@[simp] theorem Control.watchEnded_held (e : Sensed) (k : Control) (b : Breaker) (fin : OpEnd) :
    (Control.watchEnded e k b fin).held = k.held := by
  unfold Control.watchEnded
  try dsimp only
  repeat' split
  all_goals simp

@[simp] theorem Control.releaseReservation_held (k : Control) (b : Breaker) (h : Holder) :
    (Control.releaseReservation k b h).held = k.held := by
  unfold Control.releaseReservation
  try dsimp only
  repeat' split
  all_goals simp

@[simp] theorem Control.tryGrant_held (e : Sensed) (k : Control) (c : ClaimBus) :
    (Control.tryGrant e k c).held = k.held := by
  unfold Control.tryGrant
  try dsimp only
  repeat' split
  all_goals simp

@[simp] theorem Control.claimOccasion_held (e : Sensed) (k : Control) (c : ClaimBus) :
    (Control.claimOccasion e k c).held = k.held := by
  unfold Control.claimOccasion
  try dsimp only
  repeat' split
  all_goals simp

@[simp] theorem Control.claimOccasions_held (e : Sensed) (k : Control) :
    (Control.claimOccasions e k).held = k.held := by
  simp [Control.claimOccasions]

@[simp] theorem Control.claimLeft_held (e : Sensed) (k : Control) (c : ClaimBus) (b : Breaker) (p : Party) (cause : Cause) :
    (Control.claimLeft e k c b p cause).held = k.held := by
  unfold Control.claimLeft
  try dsimp only
  repeat' split
  all_goals simp

@[simp] theorem Control.endHolder_held (e : Sensed) (k : Control) (c : ClaimBus) (cause : Cause) :
    (Control.endHolder e k c cause).held = k.held := by
  unfold Control.endHolder
  try dsimp only
  repeat' split
  all_goals simp

@[simp] theorem Control.endWaiting_held (e : Sensed) (k : Control) (c : ClaimBus) (b : Breaker) (cause : Cause) :
    (Control.endWaiting e k c b cause).held = k.held := by
  unfold Control.endWaiting
  try dsimp only
  repeat' split
  all_goals simp

@[simp] theorem Control.endClaims_held (e : Sensed) (k : Control) (b : Breaker) (p : Party) (cause : Cause) :
    (Control.endClaims e k b p cause).held = k.held := by
  unfold Control.endClaims
  apply forEach_held
  intro a k
  try dsimp only
  repeat' split
  all_goals (first | rfl | simp_all)

@[simp] theorem Control.claimServed_held (e : Sensed) (k : Control) (b : Breaker) (cause : Cause) :
    (Control.claimServed e k b cause).held = k.held := by
  unfold Control.claimServed
  apply forEach_held
  intro a k
  try dsimp only
  repeat' split
  all_goals (first | rfl | simp_all)

@[simp] theorem Control.markStarted_held (k : Control) (b : Breaker) (p : Party) :
    (Control.markStarted k b p).held = k.held := by
  unfold Control.markStarted
  apply forEach_held
  intro a k
  try dsimp only
  repeat' split
  all_goals rfl

@[simp] theorem Control.requestClaim_held (e : Sensed) (k : Control) (c : ClaimBus) (b : Breaker) (p : Party) :
    (Control.requestClaim e k c b p).1.held = k.held := by
  unfold Control.requestClaim
  try dsimp only
  repeat' split
  all_goals simp

@[simp] theorem Control.busLive_held (e : Sensed) (k : Control) (c : ClaimBus) :
    (Control.busLive e k c).held = k.held := by
  unfold Control.busLive
  try dsimp only
  repeat' split
  all_goals simp

@[simp] theorem Control.classOccasion_held (e : Sensed) (k : Control) :
    (Control.classOccasion e k).held = k.held := by
  unfold Control.classOccasion
  rw [Control.claimOccasions_held]
  apply forEach_held
  intro c k
  dsimp only
  split
  · rw [Control.busLive_held]; simp
  · simp

@[simp] theorem Control.matchOverlaps_held (e : Sensed) (k : Control) (arrival : Option Breaker) :
    (Control.matchOverlaps e k arrival).held = k.held := by
  rfl

@[simp] theorem Control.setSupply_held (k : Control) (l : Bus) :
    (Control.setSupply k l).held = k.held := by
  unfold Control.setSupply
  try dsimp only
  repeat' split
  all_goals simp

@[simp] theorem Control.recompute_held (e : Sensed) (k : Control) (arrival : Option Breaker) :
    (Control.recompute e k arrival).held = k.held := by
  unfold Control.recompute
  try dsimp only
  repeat' split
  all_goals simp

@[simp] theorem Control.releaseServed_held (k : Control) (b : Breaker) (op : Operation) :
    (Control.releaseServed k b op).held = k.held := by
  unfold Control.releaseServed
  split <;> simp

@[simp] theorem Control.reportEnd_held (e : Sensed) (k : Control) (b : Breaker) (op : Operation) (fin : OpEnd) :
    (Control.reportEnd e k b op fin).held = k.held := by
  unfold Control.reportEnd
  try dsimp only
  repeat' split
  all_goals simp

@[simp] theorem Control.beginOpening_held (e : Sensed) (k : Control) (b : Breaker) (kind : OpKind) (p : Party) (c : Cause) :
    (Control.beginOpening e k b kind p c).held = k.held := by
  simp [Control.beginOpening]

@[simp] theorem Control.beginClose_held (e : Sensed) (k : Control) (b : Breaker) (p : Party) (attempt : Option AttemptNo) :
    (Control.beginClose e k b p attempt).held = k.held := by
  unfold Control.beginClose
  try dsimp only
  repeat' split
  all_goals simp

@[simp] theorem Control.bcuClose_held (e : Sensed) (k : Control) (b : Breaker) (p : Party) (attempt : Option AttemptNo) :
    (Control.bcuClose e k b p attempt).1.held = k.held := by
  unfold Control.bcuClose
  try dsimp only
  repeat' split
  all_goals simp

@[simp] theorem Control.cut_held (e : Sensed) (k : Control) (b : Breaker) (op : Operation) (kind : OpKind) (p : Party) (c : Cause) :
    (Control.cut e k b op kind p c).held = k.held := by
  unfold Control.cut
  try dsimp only
  repeat' split
  all_goals simp

@[simp] theorem Control.acknowledge_held (k : Control) (b : Breaker) (settled : Bool) (c : Cause) :
    (Control.acknowledge k b settled c).held = k.held := by
  simp [Control.acknowledge]

@[simp] theorem Control.takeOpen_held (e : Sensed) (k : Control) (b : Breaker) (p : Party) :
    (Control.takeOpen e k b p).1.held = k.held := by
  unfold Control.takeOpen
  try dsimp only
  repeat' split
  all_goals simp

@[simp] theorem Control.bcuOpen_held (e : Sensed) (k : Control) (b : Breaker) (p : Party) :
    (Control.bcuOpen e k b p).1.held = k.held := by
  unfold Control.bcuOpen
  try dsimp only
  repeat' split
  all_goals simp

@[simp] theorem Control.relabel_held (k : Control) (b : Breaker) (op : Operation) (p : Party) (c : Cause) :
    (Control.relabel k b op p c).held = k.held := by
  unfold Control.relabel
  try dsimp only
  repeat' split
  all_goals simp

@[simp] theorem Control.bcuTrip_held (e : Sensed) (k : Control) (b : Breaker) (p : Party) (c : Cause) :
    (Control.bcuTrip e k b p c).held = k.held := by
  unfold Control.bcuTrip
  try dsimp only
  repeat' split
  all_goals simp

@[simp] theorem Control.uncommandedChange_held (e : Sensed) (k : Control) (b : Breaker) (new : Observed) :
    (Control.uncommandedChange e k b new).held = k.held := by
  unfold Control.uncommandedChange
  try dsimp only
  repeat' split
  all_goals simp

@[simp] theorem Control.protectionTrip_held (e : Sensed) (k : Control) (b : Breaker) (c : Cause) (value : Int) :
    (Control.protectionTrip e k b c value).held = k.held := by
  simp [Control.protectionTrip]

@[simp] theorem Control.evaluateReverse_held (e : Sensed) (k : Control) (b : Breaker) (n : Slot) :
    (Control.evaluateReverse e k b n).held = k.held := by
  unfold Control.evaluateReverse
  try dsimp only
  repeat' split
  all_goals simp

@[simp] theorem Control.evaluateProtection_held (e : Sensed) (k : Control) (b : Breaker) :
    (Control.evaluateProtection e k b).held = k.held := by
  unfold Control.evaluateProtection
  try dsimp only
  repeat' split
  all_goals simp

@[simp] theorem Control.framePru_held (e : Sensed) (k : Control) :
    (Control.framePru e k).held = k.held := by
  unfold Control.framePru
  split
  · apply forEach_held
    intro b k
    rw [Control.evaluateProtection_held]
  · rfl

@[simp] theorem Control.failureExpired_held (e : Sensed) (k : Control) (b : Breaker) :
    (Control.failureExpired e k b).held = k.held := by
  unfold Control.failureExpired
  try dsimp only
  repeat' split
  all_goals simp

@[simp] theorem Control.endAttempt_held (e : Sensed) (k : Control) (n : AttemptNo) (result : Cause) (fin : Option OpEnd) (refusal : Option Reason) :
    (Control.endAttempt e k n result fin refusal).held = k.held := by
  unfold Control.endAttempt
  try dsimp only
  repeat' split
  all_goals simp

@[simp] theorem Control.placeAttempt_held (e : Sensed) (k : Control) (n : AttemptNo) (b : Breaker) (r : Requester) :
    (Control.placeAttempt e k n b r).held = k.held := by
  unfold Control.placeAttempt
  try dsimp only
  repeat' split
  all_goals simp

@[simp] theorem Control.createAttempt_held (e : Sensed) (k : Control) (b : Breaker) (r : Requester) :
    (Control.createAttempt e k b r).1.held = k.held := by
  unfold Control.createAttempt
  try dsimp only
  repeat' split
  all_goals simp

@[simp] theorem Control.grantReservation_held (k : Control) (b : Breaker) (h : Holder) :
    (Control.grantReservation k b h).held = k.held := by
  simp [Control.grantReservation]

@[simp] theorem Control.reserve_held (e : Sensed) (k : Control) (b : Breaker) (h : Holder) :
    (Control.reserve e k b h).1.held = k.held := by
  unfold Control.reserve
  try dsimp only
  repeat' split
  all_goals simp

@[simp] theorem Control.sendClose_held (e : Sensed) (k : Control) (n : AttemptNo) (a : Attempt) :
    (Control.sendClose e k n a).held = k.held := by
  unfold Control.sendClose
  try dsimp only
  repeat' split
  all_goals (try rename_i heq; try (have hk := fst_of_eq heq; subst hk))
  all_goals (first | rfl | simp)

@[simp] theorem Control.evaluate_held (e : Sensed) (k : Control) (n : AttemptNo) (a : Attempt) (x r : Channel) :
    (Control.evaluate e k n a x r).held = k.held := by
  unfold Control.evaluate
  try dsimp only
  repeat' split
  all_goals simp

@[simp] theorem Control.syncEdge_held (e : Sensed) (k : Control) (c : Channel) :
    (Control.syncEdge e k c).held = k.held := by
  unfold Control.syncEdge
  apply forEach_held
  intro a k
  try dsimp only
  repeat' split
  all_goals (first | rfl | simp_all)

@[simp] theorem Control.syncReport_held (e : Sensed) (k : Control) (r : OpReport) :
    (Control.syncReport e k r).held = k.held := by
  unfold Control.syncReport
  try dsimp only
  repeat' split
  all_goals simp

@[simp] theorem Control.deadBusClose_held (e : Sensed) (k : Control) (b : Breaker) (p : Party) (dead : Channel) :
    (Control.deadBusClose e k b p dead).1.held = k.held := by
  unfold Control.deadBusClose
  try dsimp only
  repeat' split
  all_goals simp

@[simp] theorem Control.classifySides_held (e : Sensed) (k : Control) (b : Breaker) (p : Party) (x r : Channel) :
    (Control.classifySides e k b p x r).1.held = k.held := by
  unfold Control.classifySides
  try dsimp only
  repeat' split
  all_goals simp

@[simp] theorem Control.classifyClose_held (e : Sensed) (k : Control) (b : Breaker) (p : Party) :
    (Control.classifyClose e k b p).1.held = k.held := by
  unfold Control.classifyClose
  try dsimp only
  repeat' split
  all_goals simp

@[simp] theorem Control.closeDemand_held (e : Sensed) (k : Control) (b : Breaker) (p : Party) :
    (Control.closeDemand e k b p).1.held = k.held := by
  have h := Control.classifyClose_held e k b p
  unfold Control.closeDemand
  split
  · rename_i heq
    rw [heq] at h
    dsimp only at h
    split
    · exact h
    · split
      · simp [h]
      · exact h
  · exact h

@[simp] theorem Control.modHealth_held (k : Control) (u : Utility) (f : HealthRec → HealthRec) :
    (Control.modHealth k u f).held = k.held := by
  rfl

@[simp] theorem Control.setHealth_held (e : Sensed) (k : Control) (u : Utility) (state : Health) (timer : Timer) (cause : Cause) :
    (Control.setHealth e k u state timer cause).held = k.held := by
  rfl

@[simp] theorem Control.noteReason_held (k : Control) (u : Utility) (failure : Option Cause) :
    (Control.noteReason k u failure).held = k.held := by
  unfold Control.noteReason
  try dsimp only
  repeat' split
  all_goals simp

@[simp] theorem Control.evaluateHealth_held (e : Sensed) (k : Control) (u : Utility) :
    (Control.evaluateHealth e k u).held = k.held := by
  unfold Control.evaluateHealth
  try dsimp only
  repeat' split
  all_goals simp

@[simp] theorem Control.healthNoSignal_held (e : Sensed) (k : Control) (u : Utility) :
    (Control.healthNoSignal e k u).held = k.held := by
  unfold Control.healthNoSignal
  try dsimp only
  repeat' split
  all_goals simp

@[simp] theorem Control.setAvailable_held (e : Sensed) (k : Control) (new : Bool) (cause : Cause) :
    (Control.setAvailable e k new cause).held = k.held := by
  unfold Control.setAvailable
  try dsimp only
  repeat' split
  all_goals simp

@[simp] theorem Control.deriveAvailable_held (e : Sensed) (k : Control) (lost : Cause) :
    (Control.deriveAvailable e k lost).held = k.held := by
  simp [Control.deriveAvailable]

@[simp] theorem Control.capacitySmn_held (e : Sensed) (k : Control) :
    (Control.capacitySmn e k).held = k.held := by
  unfold Control.capacitySmn
  try dsimp only
  repeat' split
  all_goals simp

@[simp] theorem Control.frameSmn_held (e : Sensed) (k : Control) :
    (Control.frameSmn e k).held = k.held := by
  unfold Control.frameSmn
  try dsimp only
  repeat' split
  all_goals simp

@[simp] theorem Control.channelSmn_held (e : Sensed) (k : Control) (c : Channel) :
    (Control.channelSmn e k c).held = k.held := by
  unfold Control.channelSmn
  try dsimp only
  repeat' split
  all_goals simp

@[simp] theorem Control.stalenessSmn_held (e : Sensed) (k : Control) :
    (Control.stalenessSmn e k).held = k.held := by
  rfl

@[simp] theorem Control.setBlock_held (k : Control) (f : Block) (state : BlockState) :
    (Control.setBlock k f state).held = k.held := by
  rfl

@[simp] theorem Control.preShedOpenEnded_held (k : Control) (f : Block) :
    (Control.preShedOpenEnded k f).held = k.held := by
  unfold Control.preShedOpenEnded
  try dsimp only
  repeat' split
  all_goals rfl

@[simp] theorem Control.shed_held (e : Sensed) (k : Control) (f : Block) (cause : Cause) :
    (Control.shed e k f cause).1.held = k.held := by
  simp [Control.shed]

@[simp] theorem Control.shedOne_held (e : Sensed) (k : Control) (cause : Cause) :
    (Control.shedOne e k cause).held = k.held := by
  unfold Control.shedOne
  try dsimp only
  repeat' split
  all_goals simp

@[simp] theorem Control.shedToCapacity_held (e : Sensed) (k : Control) (x0 : Nat) :
    (Control.shedToCapacity e k x0).held = k.held := by
  induction x0 generalizing k with
  | zero => rfl
  | succ n ih =>
    unfold Control.shedToCapacity
    split
    · rw [ih]; simp
    · rfl

@[simp] theorem Control.capacityLoss_held (e : Sensed) (k : Control) :
    (Control.capacityLoss e k).held = k.held := by
  unfold Control.capacityLoss
  try dsimp only
  repeat' split
  all_goals simp

@[simp] theorem Control.preShedOne_held (e : Sensed) (k : Control) (l : Bus) (f : Block) :
    (Control.preShedOne e k l f).held = k.held := by
  unfold Control.preShedOne
  try dsimp only
  repeat' split
  all_goals simp

@[simp] theorem Control.preShed_held (e : Sensed) (k : Control) (l : Bus) :
    (Control.preShed e k l).1.held = k.held := by
  unfold Control.preShed
  try dsimp only
  repeat' split
  all_goals simp

@[simp] theorem Control.setOverload_held (k : Control) (t : Timer) :
    (Control.setOverload k t).held = k.held := by
  rfl

@[simp] theorem Control.judgeOverload_held (e : Sensed) (k : Control) :
    (Control.judgeOverload e k).held = k.held := by
  unfold Control.judgeOverload
  try dsimp only
  repeat' split
  all_goals simp

@[simp] theorem Control.setUf_held (k : Control) (st : UfStage) (t : Timer) :
    (Control.setUf k st t).held = k.held := by
  rfl

@[simp] theorem Control.judgeUf_held (e : Sensed) (k : Control) (st : UfStage) :
    (Control.judgeUf e k st).held = k.held := by
  unfold Control.judgeUf
  try dsimp only
  repeat' split
  all_goals simp

@[simp] theorem Control.judgeUfStages_held (e : Sensed) (k : Control) :
    (Control.judgeUfStages e k).held = k.held := by
  simp [Control.judgeUfStages]

@[simp] theorem Control.stopGenTimers_held (k : Control) :
    (Control.stopGenTimers k).held = k.held := by
  unfold Control.stopGenTimers
  try dsimp only
  repeat' split
  all_goals simp

@[simp] theorem Control.beginRestore_held (e : Sensed) (k : Control) (f : Block) (requested : Bool) :
    (Control.beginRestore e k f requested).held = k.held := by
  unfold Control.beginRestore
  try dsimp only
  repeat' split
  all_goals simp

@[simp] theorem Control.restored_held (e : Sensed) (k : Control) (f : Block) :
    (Control.restored e k f).held = k.held := by
  simp [Control.restored]

@[simp] theorem Control.tryRestore_held (e : Sensed) (k : Control) (f : Block) (requested : Bool) :
    (Control.tryRestore e k f requested).held = k.held := by
  have h := Control.reserve_held e k (blockBreaker f) .load
  unfold Control.tryRestore
  dsimp only
  split
  · rename_i heq
    rw [heq] at h
    exact h
  · rename_i k1 heq
    rw [heq] at h
    have h2 := Control.closeDemand_held e k1 (blockBreaker f) .load
    split <;> rename_i heq2 <;> rw [heq2] at h2 <;> simp_all

@[simp] theorem Control.seekRestore_held (e : Sensed) (k : Control) :
    (Control.seekRestore e k).held = k.held := by
  unfold Control.seekRestore
  try dsimp only
  repeat' split
  all_goals simp

@[simp] theorem Control.restoreFailed_held (e : Sensed) (k : Control) (f : Block) :
    (Control.restoreFailed e k f).held = k.held := by
  simp [Control.restoreFailed]

@[simp] theorem Control.feederObserved_held (k : Control) (f : Block) (new : Observed) (op : Option Operation) :
    (Control.feederObserved k f new op).held = k.held := by
  unfold Control.feederObserved
  try dsimp only
  repeat' split
  all_goals simp

@[simp] theorem Control.feederOpEnded_held (e : Sensed) (k : Control) (f : Block) (r : OpReport) :
    (Control.feederOpEnded e k f r).held = k.held := by
  unfold Control.feederOpEnded
  try dsimp only
  repeat' split
  all_goals simp

@[simp] theorem Control.feederOperatorOpen_held (e : Sensed) (k : Control) (f : Block) :
    (Control.feederOperatorOpen e k f).held = k.held := by
  unfold Control.feederOperatorOpen
  try dsimp only
  repeat' split
  all_goals simp

@[simp] theorem Control.feederService_held (k : Control) (f : Block) :
    (Control.feederService k f).held = k.held := by
  unfold Control.feederService
  try dsimp only
  repeat' split
  all_goals simp

@[simp] theorem Control.feederPortClose_held (k : Control) (f : Block) :
    (Control.feederPortClose k f).held = k.held := by
  unfold Control.feederPortClose
  try dsimp only
  repeat' split
  all_goals simp

@[simp] theorem Control.frameLdm_held (e : Sensed) (k : Control) :
    (Control.frameLdm e k).held = k.held := by
  unfold Control.frameLdm
  try dsimp only
  repeat' split
  all_goals simp

@[simp] theorem Control.stalenessLdm_held (e : Sensed) (k : Control) :
    (Control.stalenessLdm e k).held = k.held := by
  rfl

@[simp] theorem Control.supplyLdm_held (e : Sensed) (k : Control) :
    (Control.supplyLdm e k).held = k.held := by
  simp [Control.supplyLdm]

@[simp] theorem Control.capacityLdm_held (e : Sensed) (k : Control) :
    (Control.capacityLdm e k).held = k.held := by
  simp [Control.capacityLdm]

@[simp] theorem Control.setSlotState_held (e : Sensed) (k : Control) (n : Slot) (state : SlotState) (cause : Cause) :
    (Control.setSlotState e k n state cause).held = k.held := by
  unfold Control.setSlotState
  try dsimp only
  repeat' split
  all_goals simp

@[simp] theorem Control.endActivity_held (e : Sensed) (k : Control) (n : Slot) :
    (Control.endActivity e k n).held = k.held := by
  unfold Control.endActivity
  try dsimp only
  repeat' split
  all_goals simp

@[simp] theorem Control.failSlot_held (e : Sensed) (k : Control) (n : Slot) (cause : Cause) :
    (Control.failSlot e k n cause).held = k.held := by
  simp [Control.failSlot]

@[simp] theorem Control.restSlot_held (e : Sensed) (k : Control) (n : Slot) (cause : Cause) :
    (Control.restSlot e k n cause).held = k.held := by
  simp [Control.restSlot]

@[simp] theorem Control.demandSlotOpen_held (e : Sensed) (k : Control) (n : Slot) :
    (Control.demandSlotOpen e k n).held = k.held := by
  simp [Control.demandSlotOpen]

@[simp] theorem Control.actDeferred_held (e : Sensed) (k : Control) (n : Slot) :
    (Control.actDeferred e k n).held = k.held := by
  unfold Control.actDeferred
  try dsimp only
  repeat' split
  all_goals simp

@[simp] theorem Control.slotCompleted_held (e : Sensed) (k : Control) (n : Slot) :
    (Control.slotCompleted e k n).held = k.held := by
  simp [Control.slotCompleted]

@[simp] theorem Control.readyLost_held (e : Sensed) (k : Control) (n : Slot) :
    (Control.readyLost e k n).held = k.held := by
  unfold Control.readyLost
  try dsimp only
  repeat' split
  all_goals simp

@[simp] theorem Control.adopt_held (e : Sensed) (k : Control) (n : Slot) :
    (Control.adopt e k n).held = k.held := by
  unfold Control.adopt
  try dsimp only
  repeat' split
  all_goals simp

@[simp] theorem Control.slotAttempt_held (k : Control) (n : Slot) (m : AttemptNo) :
    (Control.slotAttempt k n m).held = k.held := by
  simp [Control.slotAttempt]

@[simp] theorem Control.slotSyncDemand_held (e : Sensed) (k : Control) (n : Slot) :
    (Control.slotSyncDemand e k n).held = k.held := by
  have h := Control.closeDemand_held e k (slotBreaker n) (.gen n)
  unfold Control.slotSyncDemand
  split <;> rename_i heq <;> rw [heq] at h <;> dsimp only at h
  · simp [h]
  · split <;> simp [h]
  · simp [h]
  · simp [h]
  · exact h

@[simp] theorem Control.leaveClosing_held (e : Sensed) (k : Control) (n : Slot) :
    (Control.leaveClosing e k n).held = k.held := by
  simp [Control.leaveClosing]

@[simp] theorem Control.reserveSync_held (e : Sensed) (k : Control) (n : Slot) :
    (Control.reserveSync e k n).held = k.held := by
  simp [Control.reserveSync]

@[simp] theorem Control.enterSync_held (e : Sensed) (k : Control) (n : Slot) :
    (Control.enterSync e k n).held = k.held := by
  simp [Control.enterSync]

@[simp] theorem Control.slotClaimedDemand_held (e : Sensed) (k : Control) (n : Slot) :
    (Control.slotClaimedDemand e k n).held = k.held := by
  unfold Control.slotClaimedDemand
  try dsimp only
  repeat' split
  all_goals (try rename_i heq; try (have hk := fst_of_eq heq; subst hk))
  all_goals (first | rfl | simp)

@[simp] theorem Control.judgeBus_held (e : Sensed) (k : Control) (n : Slot) :
    (Control.judgeBus e k n).held = k.held := by
  have h := Control.closeDemand_held e k (slotBreaker n) (.gen n)
  unfold Control.judgeBus
  dsimp only
  split
  · rfl
  · split
    · simp
    · rfl
    · split
      · split <;> rename_i heq <;> rw [heq] at h <;> dsimp only at h
        · split <;> simp [h]
        · simp [h]
        · exact h
      · rfl

@[simp] theorem Control.awaitReserve_held (e : Sensed) (k : Control) (n : Slot) :
    (Control.awaitReserve e k n).held = k.held := by
  unfold Control.awaitReserve
  try dsimp only
  repeat' split
  all_goals (try rename_i heq; try (have hk := fst_of_eq heq; subst hk))
  all_goals (first | rfl | simp)

@[simp] theorem Control.enterAwaiting_held (e : Sensed) (k : Control) (n : Slot) (cause : Cause) :
    (Control.enterAwaiting e k n cause).held = k.held := by
  simp [Control.enterAwaiting]

@[simp] theorem Control.judgeStarting_held (e : Sensed) (k : Control) (n : Slot) :
    (Control.judgeStarting e k n).held = k.held := by
  unfold Control.judgeStarting
  try dsimp only
  repeat' split
  all_goals simp

@[simp] theorem Control.judgeSync_held (e : Sensed) (k : Control) (n : Slot) :
    (Control.judgeSync e k n).held = k.held := by
  unfold Control.judgeSync
  try dsimp only
  repeat' split
  all_goals simp

@[simp] theorem Control.judgeUnload_held (e : Sensed) (k : Control) (n : Slot) :
    (Control.judgeUnload e k n).held = k.held := by
  unfold Control.judgeUnload
  try dsimp only
  repeat' split
  all_goals simp

@[simp] theorem Control.judgeClosing_held (e : Sensed) (k : Control) (n : Slot) :
    (Control.judgeClosing e k n).held = k.held := by
  unfold Control.judgeClosing
  try dsimp only
  repeat' split
  all_goals simp

@[simp] theorem Control.frameSlot_held (e : Sensed) (k : Control) (n : Slot) :
    (Control.frameSlot e k n).held = k.held := by
  unfold Control.frameSlot
  try dsimp only
  repeat' split
  all_goals simp

@[simp] theorem Control.planStart_held (e : Sensed) (k : Control) (x0 : Nat) :
    (Control.planStart e k x0).held = k.held := by
  induction x0 generalizing k with
  | zero => rfl
  | succ n ih =>
    unfold Control.planStart
    split
    · split
      · rw [ih]; simp
      · rfl
    · rfl

@[simp] theorem Control.releaseSlot_held (e : Sensed) (k : Control) (n : Slot) :
    (Control.releaseSlot e k n).held = k.held := by
  unfold Control.releaseSlot
  try dsimp only
  repeat' split
  all_goals simp

@[simp] theorem Control.evaluatePlan_held (e : Sensed) (k : Control) :
    (Control.evaluatePlan e k).held = k.held := by
  unfold Control.evaluatePlan
  split
  · apply forEach_held; intro n k; rw [Control.releaseSlot_held]
  · simp

@[simp] theorem Control.judgeAvailable_held (e : Sensed) (k : Control) (n : Slot) (cause : Cause) :
    (Control.judgeAvailable e k n cause).held = k.held := by
  unfold Control.judgeAvailable
  try dsimp only
  repeat' split
  all_goals simp

@[simp] theorem Control.enterCooldown_held (e : Sensed) (k : Control) (n : Slot) :
    (Control.enterCooldown e k n).held = k.held := by
  unfold Control.enterCooldown
  try dsimp only
  repeat' split
  all_goals simp

@[simp] theorem Control.slotObserved_held (e : Sensed) (k : Control) (n : Slot) (new : Observed) (op : Option Operation) (first : Bool) :
    (Control.slotObserved e k n new op first).held = k.held := by
  unfold Control.slotObserved
  try dsimp only
  repeat' split
  all_goals simp

@[simp] theorem Control.slotOpEnded_held (e : Sensed) (k : Control) (n : Slot) (r : OpReport) :
    (Control.slotOpEnded e k n r).held = k.held := by
  unfold Control.slotOpEnded
  try dsimp only
  repeat' split
  all_goals simp

@[simp] theorem Control.slotOperatorOpen_held (e : Sensed) (k : Control) (n : Slot) :
    (Control.slotOperatorOpen e k n).held = k.held := by
  unfold Control.slotOperatorOpen
  try dsimp only
  repeat' split
  all_goals simp

@[simp] theorem Control.slotGranted_held (e : Sensed) (k : Control) (n : Slot) :
    (Control.slotGranted e k n).held = k.held := by
  unfold Control.slotGranted
  try dsimp only
  repeat' split
  all_goals simp

@[simp] theorem Control.slotClaimEnded_held (e : Sensed) (k : Control) (n : Slot) (cause : Cause) :
    (Control.slotClaimEnded e k n cause).held = k.held := by
  unfold Control.slotClaimEnded
  try dsimp only
  repeat' split
  all_goals simp

@[simp] theorem Control.slotAttemptEnded_held (e : Sensed) (k : Control) (n : Slot) (r : AttemptReport) :
    (Control.slotAttemptEnded e k n r).held = k.held := by
  unfold Control.slotAttemptEnded
  try dsimp only
  repeat' split
  all_goals simp

@[simp] theorem Control.slotEvaluated_held (k : Control) (n : Slot) (slip : Option Int) :
    (Control.slotEvaluated k n slip).held = k.held := by
  unfold Control.slotEvaluated
  try dsimp only
  repeat' split
  all_goals simp

@[simp] theorem Control.channelGsc_held (e : Sensed) (k : Control) (c : Channel) :
    (Control.channelGsc e k c).held = k.held := by
  unfold Control.channelGsc
  split
  · simp
  · split
    · apply forEach_held; intro n k; rw [Control.judgeBus_held]
    · rfl

@[simp] theorem Control.holdEndedGsc_held (e : Sensed) (k : Control) :
    (Control.holdEndedGsc e k).held = k.held := by
  unfold Control.holdEndedGsc
  dsimp only
  rw [Control.tell_held, forEach_held _ _ _ (by intro n k; simp), forEach_held]
  intro n k
  exact Control.modSlot_held _ _ _ (fun _ => rfl)

@[simp] theorem Control.holdEnteredGsc_held (e : Sensed) (k : Control) :
    (Control.holdEnteredGsc e k).held = k.held := by
  unfold Control.holdEnteredGsc
  apply forEach_held
  intro n k
  exact Control.modSlot_held _ _ _ (fun _ => rfl)

@[simp] theorem Control.reclamp_held (k : Control) :
    (Control.reclamp k).held = k.held := by
  unfold Control.reclamp
  apply forEach_held
  intro n k
  exact Control.modSlot_held _ _ _ (fun _ => rfl)

@[simp] theorem Control.resetSlotSequence_held (e : Sensed) (k : Control) (n : Slot) :
    (Control.resetSlotSequence e k n).held = k.held := by
  unfold Control.resetSlotSequence
  try dsimp only
  repeat' split
  all_goals simp

@[simp] theorem Control.updateRequired_held (k : Control) :
    (Control.updateRequired k).held = k.held := by
  unfold Control.updateRequired
  try dsimp only
  repeat' split
  all_goals rfl

@[simp] theorem Control.cancelTransferAttempt_held (e : Sensed) (k : Control) (l : Bus) :
    (Control.cancelTransferAttempt e k l).held = k.held := by
  unfold Control.cancelTransferAttempt
  try dsimp only
  repeat' split
  all_goals simp

@[simp] theorem Control.letGo_held (e : Sensed) (k : Control) (l : Bus) (b : Option Breaker) :
    (Control.letGo e k l b).held = k.held := by
  unfold Control.letGo
  try dsimp only
  repeat' split
  all_goals simp

@[simp] theorem Control.endTransfer_held (e : Sensed) (k : Control) (l : Bus) (result : Cause) :
    (Control.endTransfer e k l result).held = k.held := by
  simp [Control.endTransfer]

@[simp] theorem Control.noteRefusal_held (e : Sensed) (k : Control) (l : Bus) :
    (Control.noteRefusal e k l).held = k.held := by
  unfold Control.noteRefusal
  split <;> rfl

@[simp] theorem Control.reserveOne_held (e : Sensed) (k : Control) (l : Bus) (b : Option Breaker) :
    (Control.reserveOne e k l b).1.held = k.held := by
  unfold Control.reserveOne
  split
  · rfl
  · rename_i b
    split
    · rfl
    · have h := Control.reserve_held e k b (.transfer l)
      split <;> rename_i heq <;> rw [heq] at h <;> simp_all

@[simp] theorem Control.reserveDemands_held (e : Sensed) (k : Control) (l : Bus) :
    (Control.reserveDemands e k l).held = k.held := by
  have h := Control.reserveOne_held e k l (k.xfer l).retiring
  unfold Control.reserveDemands
  split <;> rename_i heq <;> rw [heq] at h <;> dsimp only at h
  · simp [h]
  · rename_i k1
    have h2 := Control.reserveOne_held e k1 l (k1.xfer l).arriving
    split <;> rename_i heq2 <;> rw [heq2] at h2 <;> dsimp only at h2 <;> simp [h, h2]

@[simp] theorem Control.openRetiring_held (e : Sensed) (k : Control) (l : Bus) :
    (Control.openRetiring e k l).held = k.held := by
  unfold Control.openRetiring
  try dsimp only
  repeat' split
  all_goals simp

@[simp] theorem Control.overlapDone_held (e : Sensed) (k : Control) (l : Bus) :
    (Control.overlapDone e k l).held = k.held := by
  unfold Control.overlapDone
  try dsimp only
  repeat' split
  all_goals simp

@[simp] theorem Control.arrivalStarted_held (k : Control) (l : Bus) :
    (Control.arrivalStarted k l).held = k.held := by
  rfl

@[simp] theorem Control.arrivingDemand_held (e : Sensed) (k : Control) (l : Bus) :
    (Control.arrivingDemand e k l).1.held = k.held := by
  unfold Control.arrivingDemand
  try dsimp only
  repeat' split
  all_goals simp

@[simp] theorem Control.arrivalAnswer_held (e : Sensed) (k : Control) (l : Bus) (x0 : Answer) :
    (Control.arrivalAnswer e k l x0).held = k.held := by
  unfold Control.arrivalAnswer
  try dsimp only
  repeat' split
  all_goals simp

@[simp] theorem Control.arrivalDemand_held (e : Sensed) (k : Control) (l : Bus) :
    (Control.arrivalDemand e k l).held = k.held := by
  unfold Control.arrivalDemand
  try dsimp only
  repeat' split
  all_goals simp

@[simp] theorem Control.passStep_held (k : Control) (l : Bus) (n : AttemptNo) :
    (Control.passStep k l n).held = k.held := by
  unfold Control.passStep
  try dsimp only
  repeat' split
  all_goals simp

@[simp] theorem Control.takeStage_held (e : Sensed) (k : Control) (l : Bus) (s : Stage) :
    (Control.takeStage e k l s).held = k.held := by
  simp [Control.takeStage]

@[simp] theorem Control.overlapDemands_held (e : Sensed) (k : Control) (l : Bus) :
    (Control.overlapDemands e k l).held = k.held := by
  simp [Control.overlapDemands]

@[simp] theorem Control.transferSyncDemand_held (e : Sensed) (k : Control) (l : Bus) :
    (Control.transferSyncDemand e k l).held = k.held := by
  have h := Control.arrivingDemand_held e k l
  unfold Control.transferSyncDemand
  split <;> rename_i heq <;> rw [heq] at h <;> dsimp only at h
  · simp [h]
  · split <;> simp [h]
  all_goals simp [h]

@[simp] theorem Control.transferPreShed_held (e : Sensed) (k : Control) (l : Bus) :
    (Control.transferPreShed e k l).held = k.held := by
  simp [Control.transferPreShed]

@[simp] theorem Control.entryDemands_held (e : Sensed) (k : Control) (l : Bus) (x0 : Stage) :
    (Control.entryDemands e k l x0).held = k.held := by
  unfold Control.entryDemands
  try dsimp only
  repeat' split
  all_goals simp

@[simp] theorem Control.enterStage_held (e : Sensed) (k : Control) (l : Bus) (s : Stage) :
    (Control.enterStage e k l s).held = k.held := by
  simp [Control.enterStage]

@[simp] theorem Control.advanceTransfer_held (e : Sensed) (k : Control) (l : Bus) :
    (Control.advanceTransfer e k l).held = k.held := by
  unfold Control.advanceTransfer
  try dsimp only
  repeat' split
  all_goals simp

@[simp] theorem Control.createTransfer_held (e : Sensed) (k : Control) (l : Bus) (origin : Cause) (target : Option Target) (mode : Mode) :
    (Control.createTransfer e k l origin target mode).held = k.held := by
  unfold Control.createTransfer
  try dsimp only
  repeat' split
  all_goals simp

@[simp] theorem Control.autoCreate_held (e : Sensed) (k : Control) (l : Bus) (origin : Cause) (target : Option Target) (mode : Mode) :
    (Control.autoCreate e k l origin target mode).held = k.held := by
  simp [Control.autoCreate]

@[simp] theorem Control.evaluateTriggers_held (e : Sensed) (k : Control) (l : Bus) :
    (Control.evaluateTriggers e k l).held = k.held := by
  unfold Control.evaluateTriggers
  try dsimp only
  repeat' split
  all_goals simp

@[simp] theorem Control.triggers_held (e : Sensed) (k : Control) :
    (Control.triggers e k).held = k.held := by
  simp [Control.triggers]

@[simp] theorem Control.judgeGbLoss_held (e : Sensed) (k : Control) :
    (Control.judgeGbLoss e k).held = k.held := by
  unfold Control.judgeGbLoss
  try dsimp only
  repeat' split
  all_goals simp

@[simp] theorem Control.stalenessTsq_held (e : Sensed) (k : Control) :
    (Control.stalenessTsq e k).held = k.held := by
  rfl

@[simp] theorem Control.loseTarget_held (e : Sensed) (k : Control) (l : Bus) :
    (Control.loseTarget e k l).held = k.held := by
  unfold Control.loseTarget
  try dsimp only
  repeat' split
  all_goals simp

@[simp] theorem Control.supplyTsq_held (e : Sensed) (k : Control) (l : Bus) (old : Supply) :
    (Control.supplyTsq e k l old).held = k.held := by
  unfold Control.supplyTsq
  dsimp only
  rw [Control.tell_held, Control.updateRequired_held]
  repeat rw [apply_ite Control.held]
  simp only [Control.loseTarget_held, Control.endTransfer_held, ite_self, apply_ite Control.held,
    Control.modXfer_held, Control.judgeGbLoss_held]

@[simp] theorem Control.tripEnds_held (e : Sensed) (k : Control) (l : Bus) (c : Cause) :
    (Control.tripEnds e k l c).held = k.held := by
  unfold Control.tripEnds
  try dsimp only
  repeat' split
  all_goals simp

@[simp] theorem Control.retiringEnded_held (e : Sensed) (k : Control) (l : Bus) (b : Breaker) (fin : OpEnd) :
    (Control.retiringEnded e k l b fin).held = k.held := by
  unfold Control.retiringEnded
  try dsimp only
  repeat' split
  all_goals simp

@[simp] theorem Control.transferOpEnded_held (e : Sensed) (k : Control) (l : Bus) (r : OpReport) :
    (Control.transferOpEnded e k l r).held = k.held := by
  unfold Control.transferOpEnded
  try dsimp only
  repeat' split
  all_goals simp

@[simp] theorem Control.transferObserved_held (e : Sensed) (k : Control) (l : Bus) (b : Breaker) (new : Observed) :
    (Control.transferObserved e k l b new).held = k.held := by
  unfold Control.transferObserved
  try dsimp only
  repeat' split
  all_goals simp

@[simp] theorem Control.transferClaimEnded_held (e : Sensed) (k : Control) (l : Bus) (b : Breaker) (cause : Cause) :
    (Control.transferClaimEnded e k l b cause).held = k.held := by
  unfold Control.transferClaimEnded
  try dsimp only
  repeat' split
  all_goals simp

@[simp] theorem Control.transferGranted_held (e : Sensed) (k : Control) (l : Bus) :
    (Control.transferGranted e k l).held = k.held := by
  unfold Control.transferGranted
  try dsimp only
  repeat' split
  all_goals simp

@[simp] theorem Control.transferIssued_held (e : Sensed) (k : Control) (l : Bus) (n : AttemptNo) :
    (Control.transferIssued e k l n).held = k.held := by
  unfold Control.transferIssued
  try dsimp only
  repeat' split
  all_goals simp

@[simp] theorem Control.transferAttemptEnded_held (e : Sensed) (k : Control) (l : Bus) (r : AttemptReport) :
    (Control.transferAttemptEnded e k l r).held = k.held := by
  unfold Control.transferAttemptEnded
  try dsimp only
  repeat' split
  all_goals simp

@[simp] theorem Control.overlapTsq_held (e : Sensed) (k : Control) (group : PerChannel Bool) :
    (Control.overlapTsq e k group).held = k.held := by
  unfold Control.overlapTsq
  apply forEach_held
  intro a k
  try dsimp only
  repeat' split
  all_goals (first | rfl | simp_all)

@[simp] theorem Control.retryTransfer_held (e : Sensed) (k : Control) (l : Bus) :
    (Control.retryTransfer e k l).held = k.held := by
  unfold Control.retryTransfer
  try dsimp only
  repeat' split
  all_goals simp

@[simp] theorem Control.frameTsq_held (e : Sensed) (k : Control) :
    (Control.frameTsq e k).held = k.held := by
  unfold Control.frameTsq
  apply forEach_held
  intro a k
  try dsimp only
  repeat' split
  all_goals (first | rfl | simp_all)

@[simp] theorem Control.repeatReserve_held (e : Sensed) (k : Control) (l : Bus) :
    (Control.repeatReserve e k l).held = k.held := by
  unfold Control.repeatReserve
  try dsimp only
  repeat' split
  all_goals simp

@[simp] theorem Control.repeatReserves_held (e : Sensed) (k : Control) :
    (Control.repeatReserves e k).held = k.held := by
  simp [Control.repeatReserves]

@[simp] theorem Control.freezeStages_held (e : Sensed) (k : Control) :
    (Control.freezeStages e k).held = k.held := by
  rfl

@[simp] theorem Control.withdrawSteps_held (e : Sensed) (k : Control) :
    (Control.withdrawSteps e k).held = k.held := by
  rfl

@[simp] theorem Control.withheldDemands_held (e : Sensed) (k : Control) (l : Bus) :
    (Control.withheldDemands e k l).held = k.held := by
  unfold Control.withheldDemands
  try dsimp only
  repeat' split
  all_goals simp

@[simp] theorem Control.holdEnded_held (e : Sensed) (k : Control) :
    (Control.holdEnded e k).held = k.held := by
  unfold Control.holdEnded
  simp

@[simp] theorem Control.useStep_held (e : Sensed) (k : Control) (l : Bus) :
    (Control.useStep e k l).held = k.held := by
  unfold Control.useStep
  try dsimp only
  repeat' split
  all_goals simp

@[simp] theorem Control.atTransfer_held (k : Control) (t : Option TransferMark) (f : Bus → Control → Control)
    (h : ∀ l k, (f l k).held = k.held) : (k.atTransfer t f).held = k.held := by
  unfold Control.atTransfer
  repeat' split
  all_goals simp [h]

@[simp] theorem Control.operatorOpened_held (e : Sensed) (k : Control) (b : Breaker) (t : Option TransferMark)
    (x0 : Holder) : (Control.operatorOpened e k b t x0).held = k.held := by
  unfold Control.operatorOpened
  try dsimp only
  repeat' split
  all_goals simp

@[simp] theorem Control.observedTaken_held (e : Sensed) (k : Control) (b : Breaker) (new : Observed) (op : Option Operation) (first : Bool)
    (t : Option TransferMark) :
    (Control.observedTaken e k b new op first t).held = k.held := by
  unfold Control.observedTaken
  try dsimp only
  repeat' split
  all_goals simp

@[simp] theorem Control.opEndedTaken_held (e : Sensed) (k : Control) (r : OpReport) :
    (Control.opEndedTaken e k r).held = k.held := by
  unfold Control.opEndedTaken
  try dsimp only
  repeat' split
  all_goals simp

@[simp] theorem Control.releasedTaken_held (e : Sensed) (k : Control) (b : Breaker) :
    (Control.releasedTaken e k b).held = k.held := by
  unfold Control.releasedTaken
  try dsimp only
  repeat' split
  all_goals simp

@[simp] theorem Control.serviceTaken_held (e : Sensed) (k : Control) (b : Breaker) :
    (Control.serviceTaken e k b).held = k.held := by
  unfold Control.serviceTaken
  try dsimp only
  repeat' split
  all_goals simp

@[simp] theorem Control.demandPortClaim_held (e : Sensed) (k : Control) (c : ClaimBus) :
    (Control.demandPortClaim e k c).held = k.held := by
  unfold Control.demandPortClaim
  try dsimp only
  repeat' split
  all_goals simp

@[simp] theorem Control.grantTaken_held (e : Sensed) (k : Control) (c : ClaimBus) (x0 : Party) :
    (Control.grantTaken e k c x0).held = k.held := by
  unfold Control.grantTaken
  try dsimp only
  repeat' split
  all_goals simp

@[simp] theorem Control.claimEndTaken_held (e : Sensed) (k : Control) (b : Breaker) (cause : Cause) (x0 : Party) :
    (Control.claimEndTaken e k b cause x0).held = k.held := by
  unfold Control.claimEndTaken
  try dsimp only
  repeat' split
  all_goals simp

@[simp] theorem Control.attemptEndTaken_held (e : Sensed) (k : Control) (r : AttemptReport) :
    (Control.attemptEndTaken e k r).held = k.held := by
  unfold Control.attemptEndTaken
  try dsimp only
  repeat' split
  all_goals simp

@[simp] theorem Control.issueTaken_held (e : Sensed) (k : Control) (n : AttemptNo) (x0 : Requester) :
    (Control.issueTaken e k n x0).held = k.held := by
  unfold Control.issueTaken
  try dsimp only
  repeat' split
  all_goals simp

@[simp] theorem Control.healthTaken_held (e : Sensed) (k : Control) (u : Utility) :
    (Control.healthTaken e k u).held = k.held := by
  unfold Control.healthTaken
  try dsimp only
  repeat' split
  all_goals simp

@[simp] theorem Control.availabilityTaken_held (e : Sensed) (k : Control) :
    (Control.availabilityTaken e k).held = k.held := by
  unfold Control.availabilityTaken
  try dsimp only
  repeat' split
  all_goals simp

/-! ## The cascade -/

/-- No notice taken up changes what only a command changes. -/
@[simp] theorem Control.handle_held (e : Sensed) (k : Control) (m : Notice) : (k.handle e m).held = k.held := by
  cases m <;> unfold Control.handle
  case frameGsc => apply forEach_held; intro n k; simp
  all_goals dsimp only
  all_goals first | (simp; done) | (split <;> simp)

/-- Nothing that follows from a command changes what only a command changes. -/
@[simp] theorem Control.settle_held (e : Sensed) (n : Nat) (k : Control) : (k.settle e n).held = k.held := by
  induction n generalizing k with
  | zero => rfl
  | succ n ih =>
    unfold Control.settle
    split
    · rfl
    · rw [ih, Control.held_notices, Control.handle_held, Control.held_notices]

@[simp] theorem Control.begun_held (k : Control) : k.begun.held = k.held := rfl

/-- What a command and its consequences leave in the held part is what the command's own operation leaves there. -/
theorem Control.run_held (e : Sensed) (k : Control) (f : Control → Control) : (k.run e f).held = (f k.begun).held :=
  Control.settle_held e cascadeLimit (f k.begun)

/-! ## Each field of the held part -/

theorem Control.formed_of_held {k k' : Control} (h : k.held = k'.held) : k.tiu.formed = k'.tiu.formed :=
  congrArg Held.formed h

theorem Control.hold_of_held {k k' : Control} (h : k.held = k'.held) : k.tsq.hold = k'.tsq.hold :=
  congrArg Held.hold h

theorem Control.startUpDelay_of_held {k k' : Control} (h : k.held = k'.held) : k.tsq.startUpDelay = k'.tsq.startUpDelay :=
  congrArg Held.startUpDelay h

theorem Control.startUpEnded_of_held {k k' : Control} (h : k.held = k'.held) : k.tsq.startUpEnded = k'.tsq.startUpEnded :=
  congrArg Held.startUpEnded h

theorem Control.bias_of_held {k k' : Control} (h : k.held = k'.held) : k.gsc.bias = k'.gsc.bias :=
  congrArg Held.bias h

theorem Control.buffer_of_held {k k' : Control} (h : k.held = k'.held) : k.pru.buffer = k'.pru.buffer :=
  congrArg Held.buffer h

theorem Control.cpi_of_held {k k' : Control} (h : k.held = k'.held) : k.cpi = k'.cpi :=
  congrArg Held.cpi h

theorem Control.common_of_held {k k' : Control} (h : k.held = k'.held) : k.sst.working.common = k'.sst.working.common :=
  congrArg Held.common h

theorem Control.groups_of_held {k k' : Control} (h : k.held = k'.held) : k.sst.working.groups = k'.sst.working.groups :=
  congrArg Held.groups h

theorem Control.active_of_held {k k' : Control} (h : k.held = k'.held) : k.sst.working.active = k'.sst.working.active :=
  congrArg Held.active h

theorem Control.outOfServiceFlags_of_held {k k' : Control} (h : k.held = k'.held) : k.sst.working.outOfService = k'.sst.working.outOfService :=
  congrArg Held.outOfService h

theorem Control.curves_of_held {k k' : Control} (h : k.held = k'.held) : k.sst.working.curves = k'.sst.working.curves :=
  congrArg Held.curves h

theorem Control.image_of_held {k k' : Control} (h : k.held = k'.held) : k.sst.image = k'.sst.image :=
  congrArg Held.image h

theorem Control.unstored_of_held {k k' : Control} (h : k.held = k'.held) : k.sst.unstored = k'.sst.unstored :=
  congrArg Held.unstored h

theorem Control.ready_of_held {k k' : Control} (h : k.held = k'.held) (n : Slot) :
    (k.slot n).ready = (k'.slot n).ready := by
  have h1 := congrArg (fun x => x.ready.get n) h
  simpa [Control.held] using h1

theorem Control.breaker_of_held {k k' : Control} (h : k.held = k'.held) (b : Breaker) :
    (k.breaker b).held = (k'.breaker b).held := by
  have h1 := congrArg (fun x => x.breakers.get b) h
  simpa only [Control.held, PerBreaker.get_ofFn] using h1

end Sys2Proof.Machine
end

