-- ==== Sys2Proof/Laws/Requests.lean ====
section
/-! SUPPORT. What a command's judgement and its answer do, said once: the state after a command whose operation tells no
one, after an admitted request, and after a refused one. -/

namespace Sys2Proof.Machine

/-- A command whose operation tells no one ends with that operation. -/
theorem State.act_quiet (s : State) (f : Control → Control) (h : s.inReset = false) (hn : (f s.blocks).notices = []) :
    s.act f = .next { s with control := f s.blocks } := by
  rw [State.act_running _ _ h, Control.run_quiet _ _ _ hn]; rfl

/-- A command ends settled. -/
theorem State.act_settled (s : State) (f : Control → Control) (h : s.inReset = false) :
    s.act f = .next (s.settled (f s.blocks)) := by
  rw [State.act_running _ _ h]; rfl

/-- A change of the measured side with no reset ends settled. -/
theorem State.actSensed_running (s : State) (e : Sensed) (f : Control → Control) (h : s.inReset = false) :
    s.actSensed e f = .next { s with sensed := e, control := s.control.run e f } := by
  unfold State.actSensed; rw [if_neg (by simp [h])]

/-- A change of the measured side whose operation tells no one ends with that operation. -/
theorem State.actSensed_quiet (s : State) (e : Sensed) (f : Control → Control) (h : s.inReset = false)
    (hn : (f s.blocks).notices = []) : s.actSensed e f = .next { s with sensed := e, control := f s.blocks } := by
  rw [State.actSensed_running _ _ _ h, Control.run_quiet _ _ _ hn]; rfl

/-- Nothing left to take up: the blocks are settled. -/
theorem State.settled_quiet (s : State) (k : Control) (h : k.notices = []) :
    s.settled k = { s with control := k } := by
  unfold State.settled
  have : k.settle s.sensed cascadeLimit = k := by
    unfold cascadeLimit Control.settle; rw [h]
  rw [this]

@[simp] theorem State.blocks_notices (s : State) : s.blocks.notices = [] := rfl

@[simp] theorem State.asked_notices (s : State) (p : Port) : (s.asked p).notices = [] := by
  unfold State.asked Control.reloadLapse; split <;> rfl

/-- An admitted request at its owner and its answer. -/
theorem Control.judgeRequest_admitted (s : State) (p : Port) (cl : RequestClass) (owner : Control → Control × Response)
    (h : s.admits p cl) :
    Control.judgeRequest s.sensed p cl owner s.blocks =
      (owner (s.asked p)).1.respond p (owner (s.asked p)).2 := by
  unfold Control.judgeRequest
  dsimp only
  change (match admissionRefusal (s.asked p) p cl with | some r => _ | none => _) = _
  rw [show admissionRefusal (s.asked p) p cl = none from h]
  rfl

/-- An admitted request whose owner tells no one. -/
theorem State.request_quiet (s : State) (p : Port) (cl : RequestClass) (owner : Control → Control × Response)
    (hr : s.inReset = false) (h : s.admits p cl) (hn : (owner (s.asked p)).1.notices = []) :
    s.request p cl owner =
      .next { s with control := (owner (s.asked p)).1.respond p (owner (s.asked p)).2 } := by
  unfold State.request
  rw [State.act_quiet _ _ hr (by rw [Control.judgeRequest_admitted _ _ _ _ h]; exact hn),
    Control.judgeRequest_admitted _ _ _ _ h]

/-- An admitted request with all that follows from it. -/
theorem State.request_settled (s : State) (p : Port) (cl : RequestClass) (owner : Control → Control × Response)
    (hr : s.inReset = false) (h : s.admits p cl) :
    s.request p cl owner =
      .next (s.settled ((owner (s.asked p)).1.respond p (owner (s.asked p)).2)) := by
  unfold State.request
  rw [State.act_settled _ _ hr, Control.judgeRequest_admitted _ _ _ _ h]

/-- A request refused for access. -/
theorem State.request_refused (s : State) (p : Port) (cl : RequestClass) (owner : Control → Control × Response)
    (r : Reason) (hr : s.inReset = false) (h : admissionRefusal (s.asked p) p cl = some r) :
    s.request p cl owner = .next { s with control := (s.asked p).respond p (refusal r) } := by
  have hj : Control.judgeRequest s.sensed p cl owner s.blocks = (s.asked p).respond p (refusal r) := by
    unfold Control.judgeRequest
    dsimp only
    change (match admissionRefusal (s.asked p) p cl with | some r => _ | none => _) = _
    rw [h]
    rfl
  unfold State.request
  rw [State.act_quiet _ _ hr (by rw [hj]; simp), hj]

/-- A request of any outcome leaves what only commands change as its owner left it. -/
theorem State.settled_held (s : State) (k : Control) : (s.settled k).control.held = k.held := by
  unfold State.settled
  exact Control.settle_held _ _ _

@[simp] theorem State.settled_sensed (s : State) (k : Control) : (s.settled k).sensed = s.sensed := rfl

@[simp] theorem State.settled_inReset (s : State) (k : Control) : (s.settled k).inReset = s.inReset := rfl

@[simp] theorem State.settled_pending (s : State) (k : Control) : (s.settled k).pending = s.pending := rfl

end Sys2Proof.Machine
end

