-- ==== Sys2Proof/Laws/Operations.lean ====
section
/-! SUPPORT. What shared operations can do, said once: the slots of the attempt list, the start checks of a close, the waiting
lists and ends of claims, the lockout, and the notices of BCU. -/

namespace Sys2Proof.Machine

/-! ## The attempt list -/

/-- A slot is free just if it holds no record or one that has ended (R24). -/
theorem slotFree_eq_true (k : Control) (n : AttemptNo) :
    slotFree k n = true ↔ ∀ a, k.attempt n = some a → a.state = .ended := by
  unfold slotFree Attempt.inProgress
  cases h : k.attempt n <;> simp

/-- A slot is taken just if it holds a record in progress (R24). -/
theorem slotFree_eq_false (k : Control) (n : AttemptNo) :
    slotFree k n = false ↔ ∃ a, k.attempt n = some a ∧ a.state ≠ .ended := by
  unfold slotFree Attempt.inProgress
  cases h : k.attempt n <;> simp

/-- The free slot taken is the one before which every slot is taken (R25). -/
theorem freeSlot_eq_some (k : Control) (n : AttemptNo) :
    freeSlot k = some n ↔ slotFree k n = true ∧ ∀ m, m.index < n.index → slotFree k m = false := by
  unfold freeSlot AttemptNo.all
  simp only [List.find?]
  constructor
  · intro h
    repeat' split at h
    all_goals first
      | (cases h; done)
      | (cases h; exact ⟨by assumption, fun m hm => by cases m <;> simp [AttemptNo.index] at hm <;> assumption⟩)
  · rintro ⟨h1, h2⟩
    have := h2 .a0; have := h2 .a1; have := h2 .a2; have := h2 .a3
    have := h2 .a4; have := h2 .a5; have := h2 .a6; have := h2 .a7
    cases n <;> simp_all [AttemptNo.index]

/-- No slot is free just if every slot holds a record in progress (R26). -/
theorem freeSlot_eq_none (k : Control) : freeSlot k = none ↔ ∀ m, slotFree k m = false := by
  unfold freeSlot
  simp only [List.find?_eq_none, Bool.not_eq_true]
  exact ⟨fun h m => h m (by cases m <;> simp [AttemptNo.all]), fun h m _ => h m⟩

/-- A slot holds a PORT attempt in EVALUATING (R26). -/
theorem portEvaluating_eq_true (k : Control) (n : AttemptNo) :
    portEvaluating k n = true ↔ ∃ a p, k.attempt n = some a ∧ a.state = .evaluating ∧ a.requester = .port p := by
  unfold portEvaluating
  cases h : k.attempt n with
  | none => simp
  | some a => cases hq : a.requester <;> simp [hq]

/-! ## The start of a close -/

/-- A close that passes the checks of step 1 passes BCU's start checks, and no attempt is in progress on its breaker. -/
theorem startRefusal_none (k : Control) (b : Breaker) (p : Party) (h : breakerRefusal k b p none = none) :
    startRefusal k b p = none ∧ attemptOn k b = none := by
  unfold breakerRefusal at h
  dsimp only at h
  unfold startRefusal
  dsimp only
  repeat' split at h
  all_goals simp_all
  all_goals (cases hh : attemptOn k b <;> simp_all)

/-- On a breaker observed OPEN such a close starts. -/
theorem Control.bcuClose_starts (e : Sensed) (k : Control) (b : Breaker) (p : Party)
    (h : breakerRefusal k b p none = none) (ho : (k.breaker b).observed = .opened) :
    k.bcuClose e b p none = (k.beginClose e b p none, .started) := by
  unfold Control.bcuClose
  rw [(startRefusal_none k b p h).1, ho]
  rfl

/-- On a breaker observed CLOSED such a close is acknowledged. -/
theorem Control.bcuClose_acknowledged (e : Sensed) (k : Control) (b : Breaker) (p : Party)
    (h : breakerRefusal k b p none = none) (ho : (k.breaker b).observed = .closed) :
    k.bcuClose e b p none = (k.modBreaker b fun r => { r with commanded := .closed }, .acknowledged) := by
  unfold Control.bcuClose
  rw [(startRefusal_none k b p h).1, ho]
  rfl

/-! ## Claims -/

/-- Where a request is placed: behind every request but those of its own instant with a higher breaker index (R75). -/
theorem placeRequest_split (r : ClaimRequest) (l : List ClaimRequest) (hne : ∀ x, x ∈ l → x.breaker ≠ r.breaker) :
    ∃ before after, l = before ++ after ∧
      (∀ x, x ∈ before → x.arrival = r.arrival → x.breaker.index < r.breaker.index) ∧
      (∀ x, after.head? = some x → x.arrival = r.arrival ∧ r.breaker.index < x.breaker.index) ∧
      placeRequest r l = before ++ r :: after ∧
      requestPlace r.breaker (placeRequest r l) = before.length + 1 := by
  induction l with
  | nil => exact ⟨[], [], rfl, by simp, by simp, rfl, by simp [placeRequest, requestPlace]⟩
  | cons x l ih =>
    unfold placeRequest
    split
    · rename_i h
      simp only [Bool.and_eq_true, decide_eq_true_eq] at h
      exact ⟨[], x :: l, rfl, by simp, by intro y hy; simp at hy; subst hy; exact h, rfl,
        by simp [requestPlace, List.findIdx_cons]⟩
    · rename_i h
      simp only [Bool.and_eq_true, decide_eq_true_eq, not_and] at h
      obtain ⟨b, a, h1, h2, h3, h4, h5⟩ := ih (fun y hy => hne y (by simp [hy]))
      have hx := hne x (by simp)
      refine ⟨x :: b, a, by simp [h1], ?_, h3, by simp [h4], ?_⟩
      · intro y hy ha
        simp only [List.mem_cons] at hy
        rcases hy with rfl | hy
        · have := h ha
          have hi : y.breaker.index ≠ r.breaker.index := by
            intro q; apply hx; revert q
            generalize y.breaker = p; generalize r.breaker = q
            cases p <;> cases q <;> decide
          omega
        · exact h2 y hy ha
      · unfold requestPlace at h5 ⊢
        rw [List.findIdx_cons]
        simp only [hx, decide_false, cond_false, List.length_cons]
        omega

/-- No request of a party for a breaker waits in a claim. -/
def Claim.WaitsFree (v : Claim) (b : Breaker) (p : Party) : Prop :=
  ∀ r, r ∈ v.waiting → ¬(r.breaker = b ∧ r.party = p)

/-- A party does not hold a claim for a breaker. -/
def Claim.HeldFree (v : Claim) (b : Breaker) (p : Party) : Prop :=
  ∀ h, v.holder = some h → ¬(h.breaker = b ∧ h.party = p)

/-- A party has neither a request nor a claim for a breaker. -/
theorem hasClaimRequest_eq_false (k : Control) (c : ClaimBus) (b : Breaker) (p : Party) :
    hasClaimRequest k c b p = false ↔ (k.claim c).WaitsFree b p ∧ (k.claim c).HeldFree b p := by
  unfold hasClaimRequest holdsClaim waitsForClaim Claim.WaitsFree Claim.HeldFree
  cases h : (k.claim c).holder <;> simp [and_comm]

theorem Control.claim_setClaim (k : Control) (c d : ClaimBus) (v : Claim) :
    (k.setClaim c v).claim d = if d = c then v else k.claim d := PerClaimBus.get_set _ _ _ _

@[simp] theorem Control.releaseReservation_claim (k : Control) (b : Breaker) (h : Holder) (c : ClaimBus) :
    (k.releaseReservation b h).claim c = k.claim c := by
  unfold Control.releaseReservation; split <;> rfl

@[simp] theorem Control.claimLeft_claim (e : Sensed) (k : Control) (c : ClaimBus) (b : Breaker) (p : Party) (cause : Cause)
    (d : ClaimBus) : (k.claimLeft e c b p cause).claim d = k.claim d := by
  unfold Control.claimLeft
  dsimp only
  split
  · split
    · rfl
    · rw [Control.releaseReservation_claim]; rfl
  · rfl

/-- A grant makes a holder of a waiting request, so a party that waits for nothing gets nothing (R76). -/
theorem Control.tryGrant_claim (e : Sensed) (k : Control) (c d : ClaimBus) (b : Breaker) (p : Party)
    (h : (k.claim d).WaitsFree b p) :
    ((k.tryGrant e c).claim d).WaitsFree b p ∧
      ((k.claim d).HeldFree b p → ((k.tryGrant e c).claim d).HeldFree b p) := by
  unfold Control.tryGrant
  split
  · rename_i r rest h1 h2
    split
    · have (k0 : Control) x y : ((k0.record e x (.bus c) .none r.breaker.index).tell y).claim d = k0.claim d := rfl
      rw [this, Control.claim_setClaim]
      split
      · rename_i q; subst q
        constructor
        · intro x hx; exact h x (by rw [h2]; simp at hx; simp [hx])
        · intro _ y hy
          simp only [Option.some.injEq] at hy
          subst hy
          exact h r (by rw [h2]; simp)
      · exact ⟨h, id⟩
    · exact ⟨h, id⟩
  · exact ⟨h, id⟩

/-- The end of a holder leaves no claim to a party that waits for nothing (R78). -/
theorem Control.endHolder_claim (e : Sensed) (k : Control) (c d : ClaimBus) (cause : Cause) (b : Breaker) (p : Party)
    (h : (k.claim d).WaitsFree b p) :
    ((k.endHolder e c cause).claim d).WaitsFree b p ∧
      ((k.claim d).HeldFree b p ∨ d = c → ((k.endHolder e c cause).claim d).HeldFree b p) := by
  unfold Control.endHolder
  split
  · rename_i v hv
    have e1 : ((k.setClaim c { k.claim c with holder := none }).claimLeft e c v.breaker v.party cause).claim d =
        if d = c then { k.claim c with holder := none } else k.claim d := by
      rw [Control.claimLeft_claim, Control.claim_setClaim]
    have h' : (((k.setClaim c { k.claim c with holder := none }).claimLeft e c v.breaker v.party cause).claim
        d).WaitsFree b p := by
      rw [e1]; split
      · rename_i q; subst q; exact h
      · exact h
    have g := Control.tryGrant_claim e _ c d b p h'
    refine ⟨g.1, fun hn => g.2 ?_⟩
    rw [e1]; split
    · intro y hy; cases hy
    · rename_i q; exact hn.resolve_right q
  · rename_i hv
    refine ⟨h, fun hn => hn.elim id fun q => ?_⟩
    subst q; intro y hy; rw [hv] at hy; cases hy

/-- The end of a waiting request leaves none for its breaker (R78). -/
theorem Control.endWaiting_claim (e : Sensed) (k : Control) (c d : ClaimBus) (cause : Cause) (a b : Breaker) (p : Party) :
    ((k.claim d).WaitsFree b p ∨ (d = c ∧ a = b) → ((k.endWaiting e c a cause).claim d).WaitsFree b p) ∧
      ((k.claim d).HeldFree b p → ((k.endWaiting e c a cause).claim d).HeldFree b p) := by
  unfold Control.endWaiting
  split
  · rw [Control.claimLeft_claim, Control.claim_setClaim]
    split
    · rename_i q; subst q
      refine ⟨?_, fun h => h⟩
      intro h r hr hq
      have hm := List.mem_filter.1 hr
      rcases h with h | ⟨_, rfl⟩
      · exact h r hm.1 hq
      · have := hm.2; rw [hq.1] at this; simp at this
    · rename_i q; exact ⟨fun h => h.elim id fun h => absurd h.1 q, id⟩
  · rename_i hf
    refine ⟨fun h => h.elim id ?_, id⟩
    rintro ⟨rfl, rfl⟩ r hr hq
    rw [List.find?_eq_none] at hf
    exact hf r hr (by simp [hq.1])

/-- One claim's part in the end of a party's requests for a breaker (R78). -/
theorem Control.endClaims_eq (e : Sensed) (k : Control) (b : Breaker) (p : Party) (cause : Cause) :
    k.endClaims e b p cause = forEach ClaimBus.all
      (fun c k =>
        let k1 := if waitsForClaim k c b p then k.endWaiting e c b cause else k
        if holdsClaim k1 c b p then k1.endHolder e c cause else k1)
      k := rfl

/-- What one claim's part leaves: nothing for that party and breaker there, and nothing new for anyone else. -/
theorem Control.endClaim_claim (e : Sensed) (k : Control) (a b : Breaker) (q p : Party) (cause : Cause) (c d : ClaimBus) :
    let k1 := if waitsForClaim k c a q then k.endWaiting e c a cause else k
    let k2 := if holdsClaim k1 c a q then k1.endHolder e c cause else k1
    ((k.claim d).WaitsFree b p ∧ (k.claim d).HeldFree b p) ∨ (d = c ∧ a = b ∧ q = p) →
      (k2.claim d).WaitsFree b p ∧ (k2.claim d).HeldFree b p := by
  intro k1 k2 h
  have w : (k1.claim d).WaitsFree b p := by
    by_cases hw : waitsForClaim k c a q = true
    · rw [show k1 = k.endWaiting e c a cause from if_pos hw]
      exact (Control.endWaiting_claim e k c d cause a b p).1 (h.imp And.left fun h => ⟨h.1, h.2.1⟩)
    · rw [show k1 = k from if_neg hw]
      rcases h with h | ⟨rfl, rfl, rfl⟩
      · exact h.1
      · intro r hr hq; apply hw; unfold waitsForClaim; rw [List.any_eq_true]; exact ⟨r, hr, by simp [hq]⟩
  have hk (hf : (k.claim d).HeldFree b p) : (k1.claim d).HeldFree b p := by
    by_cases hw : waitsForClaim k c a q = true
    · rw [show k1 = k.endWaiting e c a cause from if_pos hw]
      exact (Control.endWaiting_claim e k c d cause a b p).2 hf
    · rw [show k1 = k from if_neg hw]; exact hf
  clear_value k1
  by_cases hh : holdsClaim k1 c a q = true
  · rw [show k2 = k1.endHolder e c cause from if_pos hh]
    have := Control.endHolder_claim e k1 c d cause b p w
    exact ⟨this.1, this.2 (h.imp (fun h => hk h.2) And.left)⟩
  · rw [show k2 = k1 from if_neg hh]
    refine ⟨w, ?_⟩
    rcases h with h | ⟨rfl, rfl, rfl⟩
    · exact hk h.2
    · intro y hy hq; apply hh; unfold holdsClaim; rw [hy]; simp [hq]

/-- The end of every request of a party for a breaker leaves none on any bus (R78). -/
theorem Control.endClaims_clears (e : Sensed) (k : Control) (b : Breaker) (p : Party) (cause : Cause) (d : ClaimBus) :
    hasClaimRequest (k.endClaims e b p cause) d b p = false := by
  rw [hasClaimRequest_eq_false, Control.endClaims_eq]
  have step (k : Control) (c : ClaimBus) := Control.endClaim_claim e k b b p p cause c d
  cases d
  · exact step _ _ (.inl (step _ _ (.inl (step _ _ (.inr ⟨rfl, rfl, rfl⟩)))))
  · exact step _ _ (.inl (step _ _ (.inr ⟨rfl, rfl, rfl⟩)))
  · exact step _ _ (.inr ⟨rfl, rfl, rfl⟩)

/-- The end of a party's requests gives no other party or breaker a request or a claim it did not have (R78). -/
theorem Control.endClaims_keeps (e : Sensed) (k : Control) (a b : Breaker) (q p : Party) (cause : Cause) (d : ClaimBus)
    (h : hasClaimRequest k d b p = false) : hasClaimRequest (k.endClaims e a q cause) d b p = false := by
  rw [hasClaimRequest_eq_false] at h
  rw [hasClaimRequest_eq_false, Control.endClaims_eq]
  have step (k : Control) (c : ClaimBus) := Control.endClaim_claim e k a b q p cause c d
  exact step _ _ (.inl (step _ _ (.inl (step _ _ (.inl h)))))

/-! ## Lockout -/

/-- A lockout set with a cause that takes effect: none stood, or a first cause gives way to an escalation (R154). -/
theorem Control.setLockout_sets (e : Sensed) (k : Control) (b : Breaker) (c : Cause)
    (h : (k.lockout b).flag = false ∨ ((k.lockout b).cause.escalation = false ∧ c.escalation = true)) :
    k.setLockout e b c = k.changeLockout e b c ∧ (k.setLockout e b c).lockout b = ⟨true, c⟩ := by
  have hc : (k.changeLockout e b c).lockout b = ⟨true, c⟩ := by
    unfold Control.changeLockout Control.handLockout
    split <;> (show (k.sst.working.lockout.set b _).get b = _; rw [PerBreaker.get_set_same])
  unfold Control.setLockout
  dsimp only
  cases hf : (k.lockout b).flag
  · simp [hc]
  · rw [hf] at h; simp at h; simp [h, hc]

/-- A lockout set with a cause that takes no effect: an escalation stands, or a first cause and no escalation (R154). -/
theorem Control.setLockout_stands (e : Sensed) (k : Control) (b : Breaker) (c : Cause) (h : (k.lockout b).flag = true)
    (h2 : (k.lockout b).cause.escalation = true ∨ c.escalation = false) : k.setLockout e b c = k := by
  unfold Control.setLockout
  dsimp only
  rw [h]
  rcases h2 with h2 | h2 <;> simp [h2]

/-- What a lockout leaves as it is: PRU's and BCU's records, the other breakers' lockouts and the settings (R154). -/
theorem Control.setLockout_frame (e : Sensed) (k : Control) (b : Breaker) (c : Cause) :
    let k' := k.setLockout e b c
    k'.pru = k.pru ∧ k'.bcu = k.bcu ∧ (∀ a, a ≠ b → k'.lockout a = k.lockout a) ∧ k'.common = k.common ∧
      k'.group = k.group := by
  have hc : (k.changeLockout e b c).pru = k.pru ∧ (k.changeLockout e b c).bcu = k.bcu ∧
      (∀ a, a ≠ b → (k.changeLockout e b c).lockout a = k.lockout a) ∧
      (k.changeLockout e b c).common = k.common ∧ (k.changeLockout e b c).group = k.group := by
    unfold Control.changeLockout Control.handLockout
    split <;> refine ⟨rfl, rfl, ?_, rfl, rfl⟩ <;> intro a ha <;>
      (show (k.sst.working.lockout.set b _).get a = _; rw [PerBreaker.get_set_other _ _ ha]; rfl)
  unfold Control.setLockout
  dsimp only
  repeat' split
  all_goals first
    | exact hc
    | exact ⟨rfl, rfl, fun _ _ => rfl, rfl, rfl⟩

/-! ## Notices of BCU -/

/-- A notice acts at the transfer it was made for, while that one is in progress, and on nothing else (R102). -/
theorem Control.atTransfer_cases (k : Control) (t : Option TransferMark) (f : Bus → Control → Control) :
    k.atTransfer t f = k ∨ ∃ m, t = some m ∧ stillRuns k m = true ∧ k.atTransfer t f = f m.bus k := by
  unfold Control.atTransfer
  cases t with
  | none => exact .inl rfl
  | some m => cases h : stillRuns k m <;> simp [h]

/-- A cut ends a transfer PROTECTION_TRIP for the four protection causes alone (R102). -/
theorem cutResult_protectionTrip_iff (p : Party) (c : Cause) : cutResult p c = .protectionTrip ↔ c.protects = true := by
  unfold cutResult
  by_cases ho : c = .overlapExceeded
  · simp [ho, Cause.protects]
  · cases hc : c.protects
    · cases p <;> simp [ho]
    · simp [ho]

/-- The close of an earlier transfer of the bus is not the next one's own (R102). -/
theorem ownOperation_serial (k : Control) (l : Bus) (op : Operation) (h : op.serial ≠ (k.xfer l).serial) :
    ownOperation k l op = false := by
  simp [ownOperation, h]

/-- A slot's own record says nothing of whether its close is in flight (R117). -/
@[simp] theorem ownCloseInFlight_modSlot (k : Control) (m n : Slot) (f : SlotRec → SlotRec) :
    ownCloseInFlight (k.modSlot m f) n = ownCloseInFlight k n := rfl

/-- A slot whose attempt is in CLOSE_ISSUED has its own close in flight (R117). -/
theorem ownCloseInFlight_of_closeIssued (k : Control) (n : Slot) (h : closeIssued k (attemptFor k (.gen n)) = true) :
    ownCloseInFlight k n = true := by
  simp [ownCloseInFlight, h]

/-- A release of the plan leaves a slot whose own close is in flight in its state, with deferred stop set (R112, R117). -/
theorem Control.releaseSlot_deferred (e : Sensed) (k : Control) (n : Slot) (hp : (k.slot n).demand = .plan)
    (hs : (k.slot n).state = .synchronizing) (ho : ownCloseInFlight k n = true) :
    k.releaseSlot e n =
      (k.modSlot n fun r => { r with deferredStop := true }).modSlot n fun r => { r with barred := false } := by
  simp [Control.releaseSlot, hp, hs, ho]

/-- Entry into OVERLAP counts the arriving close as started, and entry into another stage leaves that as it is (R92). -/
theorem Control.takeStage_closeStarted (e : Sensed) (k : Control) (l : Bus) (s : Stage) :
    ((k.takeStage e l s).xfer l).closeStarted = ((k.xfer l).closeStarted || s = .overlap) := by
  unfold Control.takeStage Control.updateRequired
  dsimp only
  split <;> simp [Control.xfer, Control.modXfer, Control.record, Control.tell]

/-- A transfer's notices are none of the next transfer's of its bus (R102). -/
theorem stillRuns_createdTransfer (k : Control) (l : Bus) (origin : Cause) (target : Option Target) (mode : Mode) :
    stillRuns (k.modXfer l (createdTransfer k l origin target mode)) ⟨l, (k.xfer l).serial⟩ = false := by
  simp [stillRuns, createdTransfer]

/-- The end of a close releases its port's reservation without an attempt, and nothing else (R60). -/
theorem Control.releaseServed_cases (k : Control) (b : Breaker) (op : Operation) :
    k.releaseServed b op = k ∨
      ∃ q, op.party = .port q ∧ op.attempt = none ∧ (k.breaker b).holder = some (.port q none) ∧
        k.releaseServed b op = (k.modBreaker b fun r => { r with holder := none }).tell [.released b] := by
  unfold Control.releaseServed Control.releaseReservation
  split
  · rename_i q hp ha
    by_cases h : (k.breaker b).holder = some (.port q none)
    · exact .inr ⟨q, hp, ha, h, if_pos h⟩
    · exact .inl (if_neg h)
  · exact .inl rfl

end Sys2Proof.Machine
end

