-- ==== Sys2Proof/Tests/Slice0.lean ====
section
/-! SUPPORT. Tests: figures the manual works out, frames written out byte by byte, terms the well-formedness check
refuses, and, for every statement with hypotheses, a state and operands that meet them. -/

namespace Sys2Proof.Tests

open Sys2Proof.Machine

/-! ## Small states -/

/-- The state a command leaves. -/
def ran (c : Instr) (s : State) : State :=
  match exec c s with
  | .next t => t
  | _ => s

/-- A state with its blocks changed. -/
def having (s : State) (f : Control → Control) : State := { s with control := f s.control }

/-- A state with its measured side changed. -/
def sensing (s : State) (f : Sensed → Sensed) : State := { s with sensed := f s.sensed }

/-- A state at a value of the millisecond counter. -/
def atMs (s : State) (t : Word32) : State := sensing s fun e => { e with clock := { e.clock with ms := t } }

/-- Right after reset, but with the image FRESH and both keys asserted, so that CP-P may send every request. -/
def panel : State :=
  { State.reset with
    sensed := { resetSensed with mlr := { resetMlr with fresh := true, runCount := 2, firstFresh := true } }
    control := (State.reset.control.modKey .localKey fun r => { r with level := true }).modKey .settingsKey fun r =>
      { r with level := true } }

/-- The panel with every breaker settled OPEN and the groups formed. -/
def settledPanel : State :=
  having panel fun k =>
    { k with
      bcu := .ofFn fun b => { k.breaker b with settle := .off, settled := true, observed := .opened, openMade := true }
      tiu := { k.tiu with formed := true } }

/-- A channel record that tracks at a frequency. -/
def trackingAt (freq period : Nat) : ChannelRec :=
  { resetChannel with state := .tracking, good := 3, freq := freq, period := period }

/-- A state in which a channel tracks at a voltage. -/
def live (s : State) (c : Channel) : State :=
  sensing s fun e =>
    { e with
      pcu := e.pcu.set c (trackingAt 60000 166666)
      mlr := { e.mlr with image := { e.mlr.image with volt := e.mlr.image.volt.set c 10000 } } }

/-- A state at which a channel has a voltage. -/
def volts (s : State) (c : Channel) (v : Nat) : State :=
  sensing s fun e => { e with mlr := { e.mlr with image := { e.mlr.image with volt := e.mlr.image.volt.set c v } } }

/-- A state with a breaker closed. -/
def closed (s : State) (b : Breaker) : State := having s fun k => k.modBreaker b fun r => { r with observed := .closed }

/-- A state with a breaker out of service. -/
def outside (s : State) (b : Breaker) : State :=
  having s fun k => { k with sst := { k.sst with
    working := { k.sst.working with outOfService := k.sst.working.outOfService.set b true } } }

/-- What the panel's close of a breaker comes to. -/
def closeOutcome (s : State) (b : Breaker) : Answer := (s.control.closeDemand s.sensed b (.port .cpP)).2

/-- A state with one slot record in a state. -/
def slotIn (st : SlotState) : State :=
  having settledPanel fun k => k.modSlot .s1 fun r => { r with state := st, timer := .running 0, ramp := .running 0 }

/-- A state with one slot record in a state and its READY given. -/
def readySlot (st : SlotState) : State := having (slotIn st) fun k => k.modSlot .s1 fun r => { r with ready := true }

/-- The same with the slot's own close in flight. -/
def closingSlot (st : SlotState) : State :=
  having (readySlot st) fun k => k.beginClose (readySlot st).sensed .g1 (.gen .s1) none

/-- A state with a transfer of BA in progress at a stage whose timer has run out. -/
def stageIn (st : Stage) : State :=
  having settledPanel fun k => k.modXfer .ba fun x =>
    { x with
      inProgress := true, target := some .gen, stage := some st, timer := .running 0, arriving := some .ma
      retiring := some .i1 }

/-- An attempt of slot 1 on G1 in EVALUATING. -/
def attempt1 : Attempt :=
  { newAttempt panel.sensed panel.control .g1 (.gen .s1) with deadline := 60000 }

/-! ## Well-formedness -/

theorem test_wf_partial_byte : (Instr.measurementFrame [] 8).wellFormed = false := by decide

theorem test_wf_whole_window : (Instr.windowEnded .cpA [2, 0, 254]).wellFormed = false := by decide

theorem test_wf_short_window : (Instr.windowEnded .cpA [2, 0]).wellFormed = true := by decide

/-! ## Frames written out from Table 11-1 -/

/-- STATUS: code 2, no payload, checksum 254. -/
theorem test_frame_status : windowCommand .cpB [2, 0, 254] = .status .cpB := by decide

/-- HOLD: code 32. -/
theorem test_frame_hold : windowCommand .cpP [32, 0, 224] = .hold .cpP := by decide

/-- TRANSFER: code 52, bus BB, target GEN, mode AUTO; 52 + 3 + 1 + 2 + 2 = 60, so the checksum is 196. -/
theorem test_frame_transfer : windowCommand .cpA [52, 3, 1, 2, 2, 196] = .transfer .cpA 1 2 2 := by decide

/-- GEN_COMMAND with action 1: a STOP of slot 3; 54 + 2 + 3 + 1 = 60. -/
theorem test_frame_gen_command : windowCommand .cpA [54, 2, 3, 1, 196] = .stop .cpA 3 := by decide

/-- BIAS_SET of slot 6 to 1000 = 3 · 256 + 232; 55 + 3 + 6 + 3 + 232 = 299. -/
theorem test_frame_bias_set : windowCommand .cpA [55, 3, 6, 3, 232, 213] = .biasSet .cpA 6 1000 := by decide

/-- SETTING_WRITE of item 5, index 0, value 65538 = 0, 1, 0, 2; 66 + 6 + 5 + 0 + 3 = 80. -/
theorem test_frame_setting_write : windowCommand .cpP [66, 6, 5, 0, 0, 1, 0, 2, 176] = .settingWrite .cpP 5 0 65538 := by
  decide

/-- CURVE_ENTRY, threshold 16, rate 16,777,216; 68 + 6 + 16 + 1 = 91. -/
theorem test_frame_curve_entry : windowCommand .cpP [68, 6, 0, 16, 1, 0, 0, 0, 165] = .curveEntry .cpP 16 16777216 := by
  decide

/-- R173: the same STATUS in a window that was open at the release of reset makes no request. -/
theorem test_frame_discarded :
    ({ resetPort false with discarding := true } : PortRec).command .cpB [2, 0, 254] = .windowEnded .cpB [] := by decide

/-! ## Worked figures -/

/-- Section 1.2.1: the first edge after NO_SIGNAL, the accepted one after it, the early one, and the one out of window. -/
theorem test_edges :
    judgeEdge resetChannel 1000000 = .first ∧
    judgeEdge { resetChannel with state := .acquiring, cLast := 1000000 } 1166667 = .period 166667 ∧
    judgeEdge { resetChannel with state := .acquiring, cLast := 1166667 } 1250000 = .early ∧
    judgeEdge { resetChannel with state := .tracking, cLast := 1500000 } 1833333 = .outOfWindow := by decide

/-- Section 1.3.1: the classes at the default thresholds. -/
theorem test_classes :
    classOf (live panel .ba).sensed panel.control .ba = .live ∧
    classOf (sensing (live panel .ba) fun e => { e with pcu := e.pcu.set .ba resetChannel }).sensed panel.control .ba =
      .indeterminate ∧
    classOf panel.sensed panel.control .g3 = .dead := by decide

/-- Section 2.4: G1 and GB at the first edge, on the two sides of a wrap of the timebase. -/
def acrossWrap : Sensed :=
  (sensing panel fun e => { e with
    pcu := (e.pcu.set .gb { trackingAt 59999 166667 with cLast := 4294965000 }).set .g1
      { trackingAt 60099 166390 with cLast := 3260 }
    mlr := { e.mlr with image := { e.mlr.image with volt := (e.mlr.image.volt.set .g1 10150).set .gb 9980 } } }).sensed

/-- Section 2.4: the figures of the first edge. -/
theorem test_angle_across_wrap :
    let m := measure acrossWrap panel.control .g1 .g1 .gb
    m.slip = 100 ∧ m.deltaV = 170 ∧ m.angle = some (-1200, -912) := by
  refine ⟨by decide, by decide, by decide⟩

/-- The duty of slot 1 after an evaluation with a slip, at the default settings. -/
def dutyAt (slip : Int) : Nat :=
  (((having panel fun k => k.modSlot .s1 fun r => { r with state := .synchronizing }).control.slotEvaluated .s1
    (some slip)).slot .s1).duty

/-- Section 6.7: the duties of the five slips. -/
theorem test_bias_duties :
    dutyAt (-200) = 650 ∧ dutyAt 100 = 500 ∧ dutyAt (-1700) = 900 ∧ dutyAt 203 = 449 ∧ dutyAt 1000 = 100 := by decide

/-- Section 6.7: the high times of two duties in a period of 20,000 ticks. -/
theorem test_high_times : highTime 20000 650 = 13000 ∧ highTime 20000 449 = 8980 := by decide

/-- Section 8.4: the settings of F2. -/
def f2Settings : ElementSettings where
  pickup := 400
  curve := defaultStore.curves.get .c1
  timeMultiplier := 50
  resetTime := 1000
  instThreshold := 0

/-- Section 8.4: the first frame at 1,200 A, the frame that fills the bucket, and a frame at 300 A. -/
theorem test_overcurrent :
    let r : ProtectionRec := (resetPru.records.get .f2)
    ((stepOvercurrent f2Settings 1200 r).1.bucket, (stepOvercurrent f2Settings 1200 r).1.m16) = (67104, 48) ∧
    stepOvercurrent f2Settings 1200 { r with bucket := 16776000 } =
      ({ r with bucket := 16777216, operated := true, m16 := 48 }, true) ∧
    (stepOvercurrent f2Settings 300 { r with bucket := 66708 }).1.bucket = 0 ∧
    (stepOvercurrent f2Settings 300 { r with bucket := 6710400 }).1.bucket = 6710400 - 67108 := by decide

/-- Section 3.12: the deadline reached in TRAVEL fails the CLOSE as STUCK_TRAVEL and sets close-blocked. -/
theorem test_slow_close :
    let op := newOperation (atMs settledPanel 400000).sensed panel.control .g3 .close (.gen .s3) .generator none
    let s := atMs (having settledPanel fun k => k.modBreaker .g3 fun r =>
      { r with observed := .travel, commanded := .closed, closeCoil := true, op := some op }) 400300
    let r := (ran (.operationDeadline .g3) s).control.breaker .g3
    r.op = none ∧ r.closeCoil = false ∧ r.closeBlocked = true ∧ r.commanded = .closed ∧
      ((ran (.operationDeadline .g3) s).control.erq.events.map fun x => (x.kind, x.cause, x.value)).tail =
        [(.operationFailed, .stuckTravel, 1)] := by decide

/-- Section 1.1.1: of frame 45 and the expiry at 20 ms, the expiry first makes the image STALE. -/
theorem test_expiry_first :
    let s := atMs (sensing panel fun e => { e with mlr := { e.mlr with watchdog := .running 20 } }) 20
    (ran .frameWatchdogExpiry s).sensed.mlr.fresh = false := by decide

/-! ## Witnesses: the step and the requests -/

theorem panel_operates : panel.admits .cpP .operate := by unfold State.admits; decide

theorem panel_sets : panel.admits .cpP .setting := by unfold State.admits; decide

theorem settledPanel_operates : settledPanel.admits .cpP .operate := by unfold State.admits; decide

theorem witness_StepRunsTheFrontCommand :
    ({ panel with pending := [.biasPeriodStart, .status .cpA] } : State).pending = [.biasPeriodStart, .status .cpA] := by
  decide

/-- A running state with no command waiting, one a tick before its next millisecond, and one in reset. -/
theorem witness_IdleStepIsOneTick :
    panel.pending = [] ∧ panel.inReset = false ∧ panel.sensed.clock.subMs < 9999 ∧
    (sensing panel fun e => { e with clock := { e.clock with subMs := 9999 } }).sensed.clock.subMs = 9999 ∧
    ({ panel with inReset := true } : State).inReset = true := by decide

/-- The clauses meet at a length of 10 across a wrap: not reached after 9 ms, reached after 10. -/
theorem witness_DeadlineIsReachedAfterItsLength :
    (10 < 2147483648) ∧ reached (deadlineAfter 4294967290 10) (4294967290 + BitVec.ofNat 32 9) = false ∧
      reached (deadlineAfter 4294967290 10) (4294967290 + BitVec.ofNat 32 10) = true := by decide

/-- A state in which CP-A is ACTIVE, both keys released, remote settings as given. -/
def supervised (remote : Bool) : State :=
  having State.reset fun k =>
    let k1 := k.modPort .cpA fun r => { r with role := .active, lapse := .running 2000 }
    { k1 with sst := { k1.sst with
        working := { k1.sst.working with common := { k1.common with remoteSettings := remote } } } }

theorem supervised_sound : (supervised true).control.RolesSound := by
  refine ⟨by decide, by decide, ?_⟩
  intro p; cases p <;> decide

/-- Each premise of the class table holds somewhere: keys up and down, CP-A ACTIVE, remote settings yes and no. -/
theorem witness_RequestsAreAdmittedByClass :
    panel.control.cpi.keys.localKey.level = true ∧ panel.control.cpi.keys.settingsKey.level = true ∧
    (supervised true).control.cpi.keys.localKey.level = false ∧
    (supervised true).control.cpi.keys.settingsKey.level = false ∧
    ((supervised true).control.port .cpA).role = .active ∧ ((supervised true).control.port .cpB).role ≠ .active ∧
    (supervised true).control.common.remoteSettings = true ∧
    (supervised false).control.common.remoteSettings = false ∧ (State.reset.control.port .cpA).role ≠ .active ∧
    (∀ remote, let k := (supervised remote).control.modKey .localKey fun r => { r with level := true }
      k.cpi.keys.localKey.level = true ∧ (k.port .cpA).role = .active ∧ k.common.remoteSettings = remote) := by
  decide

theorem witness_UnentitledRequestIsOnlyRefused :
    requestOf (.operateClose .cpA 0) = some (.cpA, .operate) ∧ State.reset.inReset = false ∧
      admissionRefusal (State.reset.asked .cpA) .cpA .operate = some .authority := by decide

theorem witness_RequestIsAnsweredInItsOwnWindow :
    requestOf (.status .cpA) = some (.cpA, .read) ∧ panel.inReset = false ∧
      exec (.status .cpA) panel = .next (ran (.status .cpA) panel) ∧
      Instr.status .cpA ≠ .takeover .cpA := ⟨by decide, by decide, rfl, by decide⟩

theorem witness_RequestFramesReadBack :
    requestPayload (.biasSet .cpA 6 1000) = some (.cpA, 55, [6, 3, 232]) ∧
      requestPayload (.liveness .cpB) = some (.cpB, 18, []) := by decide

/-- Windows of every kind, with lengths 60 and 61 at the limit. -/
theorem witness_WindowsAreJudgedInOrder :
    endsShort [] = true ∧ endsShort [2, 0] = true ∧ checksum [2, 0, 255] ≠ 0 ∧ checksum [2, 0, 254] = 0 ∧
    requestLength 2 = some 0 ∧ requestLength 4 = none ∧ checksum (4 :: 61 :: List.replicate 61 0 ++ [191]) = 0 ∧
    checksum (4 :: 60 :: List.replicate 60 0 ++ [192]) = 0 ∧ requestLength 4 ≠ some 60 := by decide

theorem witness_FaultyWindowsChangeOnlyTheirAnswer : panel.inReset = false := by decide

theorem witness_ReadingChangesOnlyTheAnswer :
    panel.inReset = false ∧ Port.cpA ≠ .cpP ∧ panel.admits .cpP .setting := ⟨by decide, by decide, panel_sets⟩

theorem witness_ResetAssertionReleasesTheOutputs :
    (ran .resetInputAsserted panel).inReset = true ∧ actsInReset (.status .cpA) = false := by decide

/-! ## Witnesses: measurement -/

/-- A frame of zeros with a sequence number and its checksum. -/
def zeroFrame (n : Byte) : List Byte := n :: List.replicate 72 0 ++ [0 - n]

/-- A frame that passes every check of R2, on a FRESH image, and at run counts 0 and 1; and one of each that fails. -/
theorem witness_FramesAreJudgedAndTaken :
    (zeroFrame 7).length = 74 ∧ checksum (zeroFrame 7) = 0 ∧
    panel.sensed.mlr.lastSeq ≠ some ((zeroFrame 7).headD 0) ∧ panel.inReset = false ∧ panel.sensed.mlr.fresh = true ∧
    State.reset.sensed.mlr.fresh = false ∧ State.reset.sensed.mlr.runCount = 0 ∧
    (ran (.measurementFrame (zeroFrame 7) 0) State.reset).sensed.mlr.runCount = 1 ∧
    (ran (.measurementFrame (zeroFrame 7) 0) State.reset).sensed.mlr.firstFresh = false ∧
    (ran (.measurementFrame (zeroFrame 7) 0) State.reset).sensed.mlr.lastSeq = some ((zeroFrame 7).headD 0) ∧
    (zeroFrame 7).tail.length ≠ 74 ∧ checksum (7 :: (zeroFrame 8).tail) ≠ 0 := by decide

theorem witness_WatchdogExpiryMakesTheImageStale :
    let s := sensing panel fun e => { e with mlr := { e.mlr with watchdog := .running 0 } }
    s.inReset = false ∧ s.sensed.mlr.watchdog.due s.now = true ∧ panel.sensed.mlr.watchdog.due panel.now = false := by
  decide

/-- A state in which channel U1 has a qualification of 200 ticks that began at tick 0, at a value of the timebase. -/
def qualifying (r : ChannelRec) (capture now : Word32) : State :=
  sensing panel fun e =>
    { e with
      clock := { e.clock with timebase := now }
      pcu := e.pcu.set .u1 { r with qual := some { capture := capture, length := 200 }, lastEdge := some now } }

theorem witness_QualificationsAndLastEdgesExpire :
    let s := qualifying resetChannel 1000 1199
    s.inReset = false ∧ ((s.sensed.pcu.get .u1).qual = some { capture := 1000, length := 200 }) ∧
      (s.sensed.clock.timebase - 1000).toNat < 200 ∧ reached 1199 s.sensed.clock.timebase = true := by decide

/-- The four judgements meet at 142,857 and 142,858 and at 250,000 and 250,001 ticks. -/
theorem witness_QualifiedEdgeMovesTheChannel :
    (200 ≤ ((qualifying resetChannel 1000 1200).sensed.clock.timebase - 1000).toNat) ∧
    resetChannel.state = .noSignal ∧ (trackingAt 60000 166666).state ≠ .noSignal ∧
    judgeEdge (trackingAt 60000 166666) 142857 = .early ∧
    judgeEdge (trackingAt 60000 166666) 142858 = .period 142858 ∧ 10000000000 / 142858 = 69999 ∧
    judgeEdge (trackingAt 60000 166666) 250000 = .period 250000 ∧ 10000000000 / 250000 = 40000 ∧
    judgeEdge (trackingAt 60000 166666) 250001 = .outOfWindow := by decide

/-- The tests of R15 meet at the thresholds: 8000 is live, 2000 is dead, 2001 is indeterminate. -/
theorem witness_ChannelClassIsDecidedInOrder :
    let at_ (v : Nat) : Sensed :=
      (sensing (live panel .ba) fun e =>
        { e with mlr := { e.mlr with image := { e.mlr.image with volt := e.mlr.image.volt.set .ba v } } }).sensed
    classOf (at_ 8000) panel.control .ba = .live ∧ classOf (at_ 7999) panel.control .ba = .indeterminate ∧
    classOf (at_ 2001) panel.control .ba = .indeterminate ∧ classOf (at_ 2000) panel.control .ba = .dead ∧
    classOf State.reset.sensed State.reset.control .ba = .indeterminate := by decide

/-- A state in which U1's health is in a state with its timer run out. -/
def healthIn (h : Health) : State :=
  having panel fun k => k.modHealth .u1 fun r => { r with state := h, timer := .running 0 }

theorem witness_HealthMovesByTheTable :
    (bandFailure (live panel .u1).sensed panel.control .u1).isNone = true ∧
    (bandFailure panel.sensed panel.control .u1).isNone = false ∧
    ((healthIn .pendingLoss).control.smn.health.get .u1).timer.due (healthIn .pendingLoss).now = true ∧
    ((healthIn .pendingLoss).control.smn.health.get .u1).state = .pendingLoss ∧
    ((healthIn .returning).control.smn.health.get .u1).timer.due (healthIn .returning).now = true ∧
    ((healthIn .returning).control.smn.health.get .u1).state = .returning ∧
    ([Health.unknown, .healthy, .pendingLoss, .lost, .returning].all fun h =>
      ((healthIn h).control.smn.health.get .u1).state = h) = true ∧
    channelUtility .u1 = some .u1 ∧ (State.reset.sensed.pcu.get .u1).state = .noSignal ∧
    ((live panel .u1).sensed.pcu.get .u1).state ≠ .noSignal := by decide

/-! ## Witnesses: synchronism and breakers -/

theorem witness_AnglesLieWithinOneTurn :
    0 < (acrossWrap.pcu.get .gb).period ∧ (measure acrossWrap panel.control .g1 .g1 .gb).angle = some (-1200, -912) := by
  refine ⟨by decide, by decide⟩

/-- The evaluation of section 2.4 has no failing condition; one on a STALE image and one off TRACKING have theirs. -/
theorem witness_InWindowCountMoves :
    (judgeAttempt panel.sensed panel.control attempt1 .g1 .gb).1.failing = .notTracking ∧
    (judgeAttempt State.reset.sensed panel.control attempt1 .g1 .gb).1.failing = .stale ∧
    failingCondition acrossWrap panel.control .g1 .g1 .gb (measure acrossWrap panel.control .g1 .g1 .gb) = .none := by
  refine ⟨by decide, by decide, ?_⟩
  obtain ⟨h1, h2, h3⟩ := test_angle_across_wrap
  generalize measure acrossWrap panel.control .g1 .g1 .gb = m at *
  obtain ⟨slip, angle, deltaV⟩ := m
  subst h1 h2 h3
  decide

/-- The count of section 2.4's attempt just reaches the dwell of 3 from 2, and not from 1; and one in hold needs its step
permission. -/
theorem witness_CloseIsSentAtTheDwell :
    panel.control.group.dwell = 3 ∧ nextCount 3 2 .none = 3 ∧ nextCount 3 1 .none = 2 ∧ nextCount 3 2 .slip = 0 ∧
    closeReleased panel.control attempt1 = true ∧ closeReleased (ran (.hold .cpP) panel).control attempt1 = false ∧
    closeReleased (ran (.hold .cpP) panel).control { attempt1 with stepPermission := true } = true ∧
    recheckRefusal (closed settledPanel .g1).control .a0 attempt1 = some .reserved ∧
    recheckRefusal (settledPanel.control.modBreaker .g1 fun r => { r with holder := some (.gen .s1) }) .a0 attempt1 =
      none := by decide

/-- A state with an attempt in slot 3, its state and requester as given. -/
def attempting (st : AttemptState) (r : Requester) : State :=
  atMs (having panel fun k => (k.setAttempt .a3 { attempt1 with state := st, requester := r }).modBreaker .g1 fun x =>
    { x with holder := some (.port .cpA (some .a3)) }) 60000

theorem witness_AttemptEndsInOrder :
    (((attempting .evaluating (.port .cpA)).control.attempt .a3).map fun a => (a.state, a.requester)) =
      some (.evaluating, .port .cpA) ∧
    ((attempting .evaluating (.port .cpA)).control.breaker .g1).holder = some (.port .cpA (some .a3)) ∧
    (((attempting .closeIssued (.gen .s1)).control.attempt .a3).map fun a => (a.state, a.requester)) =
      some (.closeIssued, .gen .s1) ∧
    reached attempt1.deadline (attempting .evaluating (.gen .s1)).now = true := by decide

/-- The panel with every slot of the attempt list in EVALUATING for a breaker of its own, slot 3 for a port, or none. -/
def fullList (port : Bool) : Control :=
  let k := panel.control
  { k with sye := {
      slots := .ofFn fun m => some { attempt1 with requester := if port && m = .a3 then .port .cpA else .gen .s1 }
      order := [.a3, .a0] } }

/-- The outcomes of a synchronising close handed to SYE: the lowest free slot, BUSY, a preempted port, and no slot. -/
theorem witness_AttemptsAreCreated :
    let out (k : Control) (b : Breaker) (q : Requester) : Answer := (k.createAttempt panel.sensed b q).2
    out panel.control .ma (.transfer .ba) = .attempt .a0 ∧
    out (attempting .evaluating (.gen .s1)).control .g1 (.gen .s1) = .refused .busy ∧
    out (fullList true) .ma (.transfer .ba) = .attempt .a3 ∧
    out (fullList true) .ma (.port .cpB) = .refused .noAttemptSlot ∧
    out (fullList false) .ma (.transfer .ba) = .refused .noAttemptSlot := by decide

/-- A state in which I1 has an operation in flight, its contacts as given, their settle time and its deadline run out. -/
def moving (kind : OpKind) (observed : Observed) (closedMade openMade : Bool) : State :=
  having panel fun k => k.modBreaker .i1 fun r =>
    { r with
      observed := observed, settled := true, closedMade := closedMade, openMade := openMade, settle := .running 0
      op := some { kind := kind, party := .load, cause := .load, attempt := none, start := 0, deadline := 0, serial := 0 } }

/-- A new combination, a settle into each of the four states, and a completion at a count of 0 and at 65535. -/
theorem witness_ContactsAreTimedAndObserved :
    ((panel.control.breaker .i1).closedMade, (panel.control.breaker .i1).openMade) = (false, false) ∧
    ((moving .close .opened true false).control.breaker .i1).settle.due panel.now = true ∧
    ((ran (.contactSettle .i1) (moving .close .opened true false)).control.breaker .i1).opCount = 1 ∧
    contactState false true = .opened ∧ contactState true false = .closed ∧ contactState false false = .travel ∧
    contactState true true = .invalid := by decide

theorem witness_OperationFailsAtItsDeadline :
    let op := (moving .close .opened false true).control.breaker .i1 |>.op
    (op.map fun o => (o.kind, reached o.deadline panel.now)) = some (.close, true) ∧
    (op.map fun o => reached o.deadline (4294967295 : Word32)) = some false ∧
    failureResult panel.sensed (moving .close .opened false true).control .i1
      ⟨.close, .load, .load, none, 0, 0, 0⟩ = .noMovement := by decide

/-- Each outcome of the start checks of R46, on G1. -/
theorem witness_CloseStartChecksInOrder :
    let k := settledPanel.control
    let out (f : Control → Control) (p : Party) : Answer := ((f k).bcuClose panel.sensed .g1 p none).2
    let service (k : Control) : Control :=
      { k with sst := { k.sst with
          working := { k.sst.working with outOfService := k.sst.working.outOfService.set .g1 true } } }
    out (fun k => k.putLockout .g1 ⟨true, .backup⟩) (.port .cpA) = .refused .lockout ∧
    out (fun k => k.modBreaker .g1 fun r => { r with closeBlocked := true }) (.port .cpA) = .refused .closeBlocked ∧
    out service (.port .cpA) = .refused .outOfService ∧ out service (.port .cpP) = .started ∧
    out (fun k => k.modBreaker .g1 fun r => { r with op := some ⟨.close, .load, .load, none, 0, 0, 0⟩ }) (.port .cpA) =
      .refused .busy ∧
    out (fun k => k.modBreaker .g1 fun r => { r with observed := .closed }) (.port .cpA) = .acknowledged ∧
    out (fun k => k.modBreaker .g1 fun r => { r with observed := .invalid }) (.port .cpA) = .refused .busy ∧
    out (fun k => k.modBreaker .g1 fun r => { r with holder := some .load }) (.port .cpA) = .refused .reserved ∧
    out id (.port .cpA) = .started ∧ out id .load = .refused .reserved := by decide

/-- Breakers with sound coils: at rest, and with each kind of operation in flight. -/
theorem witness_TripIsAlwaysTaken :
    (settledPanel.control.breaker .i1).CoilsSound ∧
    ({ settledPanel.control.breaker .i1 with
      op := some ⟨.close, .load, .load, none, 0, 0, 0⟩, closeCoil := true } : BreakerRec).CoilsSound ∧
    ({ settledPanel.control.breaker .i1 with
      op := some ⟨.opening, .load, .load, none, 0, 0, 0⟩, tripCoil := true } : BreakerRec).CoilsSound ∧
    ({ settledPanel.control.breaker .i1 with
      op := some ⟨.trip, .load, .load, none, 0, 0, 0⟩, tripCoil := true } : BreakerRec).CoilsSound :=
  ⟨⟨rfl, rfl⟩, ⟨rfl, rfl⟩, ⟨rfl, rfl⟩, ⟨rfl, rfl⟩⟩

/-- The indexes meet at 18 and 19; and every outcome of R69 to R73 and R141 at the panel, on a feeder and on MA. -/
theorem witness_OperateCloseIsClassified :
    settledPanel.admits .cpP .operate ∧
    settledPanel.inReset = false ∧ settledPanel.sensed.mlr.firstFresh = true ∧
    State.reset.sensed.mlr.firstFresh = false ∧ Breaker.ofIndex 18 = some .f8 ∧ Breaker.ofIndex 19 = none ∧
    closeOutcome (live settledPanel .ba) .f1 = .started ∧ closeOutcome settledPanel .f1 = .refused .busNotLive ∧
    closeOutcome (outside settledPanel .f1) .f1 = .started ∧
    closeOutcome (closed settledPanel .f1) .f1 = .acknowledged ∧
    closeOutcome (having settledPanel fun k => k.putLockout .f1 ⟨true, .backup⟩) .f1 = .refused .lockout ∧
    closeOutcome (having settledPanel fun k => { k with tiu := { k.tiu with formed := false } }) .ma =
      .refused .notReady ∧
    closeOutcome (sensing settledPanel fun e => { e with mlr := { e.mlr with fresh := false } }) .ma = .refused .stale ∧
    closeOutcome (volts settledPanel .gb 5000) .ma = .refused .voltageIndeterminate ∧
    closeOutcome (live settledPanel .ba) .ma = .claim 1 ∧
    closeOutcome (live (closed settledPanel .g1) .ba) .ma = .refused .backfeed ∧
    closeOutcome settledPanel .ma = .refused .deadDead ∧ closeOutcome (live (live settledPanel .ba) .gb) .ma = .attempt .a0 ∧
    closeOutcome (live (live (closed (closed settledPanel .i1) .g1) .ba) .gb) .ma = .refused .parallelNotPermitted ∧
    closeOutcome (having (live settledPanel .ba) fun k => k.setClaim .gb
      { holder := some { breaker := .ma, party := .port .cpP, grant := 0, lapse := 0, started := false }
        waiting := [] }) .ma = .started := ⟨settledPanel_operates, by decide⟩

/-- A feeder's block that is shed, on a bus in GEN, keeps its breaker open (R141); and a full list refuses an attempt. -/
theorem witness_OperateCloseIsRefusedLate :
    let shed := having settledPanel fun k =>
      ({ k with tiu := { k.tiu with supply := .ofFn fun _ => .gen } } : Control).setBlock .f1 .listed
    let full := having (live (live settledPanel .ba) .gb) fun k =>
      { k with sye := { k.sye with slots := .ofFn fun _ => some attempt1 } }
    closeOutcome shed .f1 = .refused .shedActive ∧ closeOutcome full .ma = .refused .noAttemptSlot := by decide

theorem witness_OperateOpenIsTaken :
    settledPanel.admits .cpP .operate ∧
    (settledPanel.control.breaker .i1).op = none ∧ (settledPanel.control.breaker .i1).observed = .opened ∧
    settledPanel.control.outOfService .i1 = false ∧
    ((moving .close .opened false true).control.breaker .i1).op.isSome = true ∧ Breaker.ofIndex 0 = some .i1 ∧
    (panel.control.breaker .i1).observed ≠ .opened := ⟨settledPanel_operates, by decide⟩

/-- Each refusal of R61 to put I1 out of service, and the conditions under which it is taken. -/
theorem witness_BreakerFlagsAreChanged :
    settledPanel.admits .cpP .operate ∧ (
    let k := settledPanel.control
    settledPanel.inReset = false ∧ k.outOfService .i1 = false ∧ (k.breaker .i1).op = none ∧
    (k.breaker .i1).holder = none ∧ (k.breaker .i1).observed = .opened ∧ k.storeBusy = false ∧
    serviceRefusal k .i1 true = none ∧ serviceRefusal (moving .close .opened true false).control .i1 true = some .busy ∧
    serviceRefusal (k.modBreaker .i1 fun r => { r with holder := some .load }) .i1 true = some .reserved ∧
    serviceRefusal (closed settledPanel .i1).control .i1 true = some .inconsistent ∧
    serviceRefusal (k.startWrite panel.sensed .defaults) .i1 true = some .storeBusy ∧
    (outside settledPanel .i1).control.outOfService .i1 = true) := ⟨settledPanel_operates, by decide⟩

/-- A locked-out F2 at rest; its current meets pickup 65,535 exactly when it is that. -/
theorem witness_ResetLockoutByTheTable :
    settledPanel.admits .cpP .operate ∧ (
    let k := settledPanel.control.putLockout .f2 ⟨true, .overcurrent⟩
    (k.lockout .f2).flag = true ∧ (k.prot .f2).failure.active = false ∧ (k.prot .f2).backupWatch = false ∧
    k.storeBusy = false ∧ panel.sensed.mlr.fresh = true ∧ State.reset.sensed.mlr.firstFresh = false ∧
    (settledPanel.control.lockout .f2).flag = false) := ⟨settledPanel_operates, by decide⟩

/-! ## Witnesses: topology, claims and transfers -/

theorem witness_GroupsAndSupplyStatesAreFormed :
    possiblyClosed panel.control .tie = true ∧ breakerX .tie = some .bb ∧ (breakerBlock .f3).isSome = true ∧
    (groupLabels settledPanel.control).get .gb = 4 ∧ (groupLabels panel.control).get .g6 = 0 ∧
    (1 < SourceSet.size ⟨true, false, true⟩) := by decide

/-- A state in which slot 1 holds the claim of GB, its lapse deadline reached, its close started or not. -/
def claiming (started : Bool) : State :=
  having settledPanel fun k => k.setClaim .gb
    { holder := some { breaker := .g1, party := .gen .s1, grant := 0, lapse := 0, started := started }, waiting := [] }

theorem witness_UnstartedClaimLapses :
    ((claiming false).control.claim .gb).holder.map (fun h => (h.started, reached h.lapse panel.now)) =
      some (false, true) ∧
    ((claiming true).control.claim .gb).holder.map (fun h => h.started) = some true := by decide

/-- Section 4.3's order: of two requests that join at one instant, the lower breaker index stands first, but behind one that
joined before; and the head is granted once the dead bus has no source. -/
theorem witness_ClaimsAreJoinedAndGranted :
    let join (k : Control) (b : Breaker) (n : Slot) : Control :=
      (k.requestClaim (sensing panel fun e => { e with mlr := { e.mlr with fresh := false } }).sensed .gb b (.gen n)).1
    let k := join (join settledPanel.control .g4 .s4) .g2 .s2
    let first : ClaimRequest := { breaker := .g6, party := .gen .s6, arrival := 4294967295 }
    let earlier := k.setClaim .gb { holder := none, waiting := [first] }
    ((k.claim .gb).waiting.map fun r => r.breaker) = [.g2, .g4] ∧
    (((join (join earlier .g4 .s4) .g2 .s2).claim .gb).waiting.map fun r => r.breaker) = [.g6, .g2, .g4] ∧
    ((k.tryGrant panel.sensed .gb).claim .gb).holder.map (fun h => (h.breaker, h.started)) = some (.g2, false) ∧
    grantable panel.sensed k .gb = true ∧ (k.claim .gb).holder = none := by decide

/-- A state with an overlap timer of the group BA and GB that has run out, and MA closed. -/
def overlapping (arriving : Option Breaker) : State :=
  having settledPanel fun k =>
    let k1 := k.modBreaker .ma fun r => { r with observed := .closed }
    { k1 with tiu := { k1.tiu with overlaps :=
        [{ group := .ofFn fun c => c = .ba || c = .gb, deadline := 0, expired := false, arriving := arriving,
           serial := 0 }] } }

theorem witness_OverlapExpiryTrips :
    ((overlapping (some .ma)).control.tiu.overlaps.map fun o =>
      (o.group.get .ba, o.expired, reached o.deadline panel.now, o.arriving)) = [(true, false, true, some .ma)] ∧
    possiblyClosed (overlapping (some .ma)).control .ma = true ∧
    possiblyClosed (overlapping (some .i1)).control .i1 = false := by decide

theorem witness_TransfersEndByTheProcedure :
    attemptFor (having (attempting .evaluating (.transfer .ba)) id).control (.transfer .ba) = some .a3 ∧
    ((stageIn .reserve).control.xfer .ba).arriving = some .ma ∧
    ((stageIn .reserve).control.xfer .ba).retiring = some .i1 := by decide

/-- Every stage that has a timer, with that timer run out; and the two timers of the sequencer. -/
theorem witness_TransferTimersExpire :
    ([Stage.reserve, .deadWait, .sourceWait, .syncWait, .closeArriving].map fun st =>
      (((stageIn st).control.xfer .ba).inProgress, ((stageIn st).control.xfer .ba).timer.due panel.now)) =
      List.replicate 5 (true, true) ∧
    capacityOnline (slotIn .online).control = 2000 ∧ capacityOnline panel.control = 0 ∧
    (Timer.running 0).due panel.now = true := by decide

/-- A TRANSFER that passes every check, one that fails the first of them, and a transfer before and after its close. -/
theorem witness_TransferRequestsAreJudgedInOrder :
    settledPanel.admits .cpP .operate ∧
    busOf 1 = some .bb ∧ busOf 2 = none ∧ targetOf 2 = some .gen ∧ modeOf 0 = some (some .openTransition) ∧
    modeOf 2 = some none ∧ transferRefusal settledPanel.sensed settledPanel.control .bb .gen none = none ∧
    transferRefusal State.reset.sensed State.reset.control .bb .gen none = some .notReady ∧
    ((stageIn .reserve).control.xfer .ba).closeStarted = false ∧ settledPanel.inReset = false := ⟨settledPanel_operates, by decide⟩

/-- The local key in both levels, hold in both, and a transfer in progress with and without a step pending. -/
theorem witness_HoldAndStepAreTaken :
    State.reset.control.cpi.keys.localKey.level = false ∧ panel.control.cpi.keys.localKey.level = true ∧
    panel.control.tsq.hold = false ∧ (ran (.hold .cpP) panel).control.tsq.hold = true ∧
    ((ran (.hold .cpP) (stageIn .reserve)).control.xfer .ba).inProgress = true ∧
    ((ran (.hold .cpP) (stageIn .reserve)).control.xfer .ba).stepPending = false ∧
    ((panel.control.xfer .ba).inProgress = false) ∧ busOf 0 = some .ba ∧ busOf 1 = some .bb ∧ busOf 2 = none := by decide

/-- A notice of a port's open acts neither on another attempt that has taken the slot (R38) nor on a later transfer of the
bus (R102), and ends the attempt or transfer it was made for. -/
theorem test_late_operator_open :
    let k := (attempting .evaluating (.transfer .ba)).control
    k.operatorOpened panel.sensed .g1 none (.port .cpA (some .a3)) = k ∧
    ((attempting .evaluating (.port .cpA)).control.operatorOpened panel.sensed .g1 none
      (.port .cpA (some .a3))).attempt .a3 ≠ (attempting .evaluating (.port .cpA)).control.attempt .a3 ∧
    let next := (stageIn .reserve).control.modXfer .ba fun x => { x with serial := 2 }
    next.operatorOpened panel.sensed .i1 (some ⟨.ba, 1⟩) (.transfer .ba) = next ∧
    ((next.operatorOpened panel.sensed .i1 (some ⟨.ba, 2⟩) (.transfer .ba)).xfer .ba).result = .operatorOpen := by decide

/-- The last generator of a GEN bus opens by hand: its slot fails, though the plan is released at that change (R119). -/
theorem test_last_generator_opens :
    let s := having (closed (closed (slotIn .online) .g1) .ma) fun k =>
      let k1 := (k.modBreaker .g1 fun r => { r with settle := .running 0, closedMade := false, openMade := true }).modSlot
        .s1 fun r => { r with demand := .plan }
      { k1 with
        bcu := .ofFn fun b => { k1.breaker b with
          settled := true, observed := if b = .g1 ∨ b = .ma then .closed else .opened }
        tiu := { k1.tiu with formed := true, supply := .ofFn fun l => if l = .ba then .gen else .dead } }
    let k := (ran (.contactSettle .g1) s).control
    (k.slot .s1).state = .failed ∧ (k.slot .s1).fault = some .uncommandedOpen ∧ k.tiu.supply.ba = .dead := by decide

/-- A release of the plan between the end of a slot's close at BCU and its report at SYE only defers the stop, and the
slot then fails by the report (R112, R117, R118). -/
theorem test_release_before_the_report :
    let k := (attempting .closeIssued (.gen .s1)).control.modSlot .s1 fun r =>
      { r with state := .synchronizing, demand := .plan, attempt := some .a3 }
    let op := newOperation panel.sensed k .g1 .close (.gen .s1) .generator (some .a3)
    let report : OpReport :=
      { breaker := .g1, op := op, fin := .failed .noMovement, transfer := none, byAttempt := byAttempt k .g1 op }
    let k1 := k.evaluatePlan panel.sensed
    let k2 := k1.run panel.sensed fun k => k.tell [.opEnded report]
    (k1.slot .s1).state = .synchronizing ∧ (k1.slot .s1).deferredStop = true ∧ (k2.slot .s1).state = .failed ∧
      (k2.slot .s1).fault = some .closeFailed ∧ (k2.slot .s1).deferredStop = false := by decide

/-- A restore close acknowledged without operation completes the restore (R46, R137), and starts no interval. -/
theorem test_acknowledged_restore :
    let s := live (closed settledPanel .f1) .ba
    let k := (s.control.setBlock .f1 .listed).tryRestore s.sensed .f1 true
    (k.blockRec .f1).state = .connected ∧ k.ldm.shedList = [] ∧ (k.breaker .f1).holder = none ∧
      k.ldm.restoreTimer = .off ∧ (k.erq.events.getLast?).map (fun r => (r.kind, r.cause)) =
        some (.blockRestored, .port) := by decide

/-- A close of SYNC_WAIT acknowledged without operation completes the arrival (R46): OVERLAP, with the retiring open. -/
theorem test_acknowledged_arrival :
    let s := having (closed (closed (stageIn .syncWait) .ma) .i1) fun k =>
      ((k.modBreaker .ma fun r => { r with holder := some (.transfer .ba) }).modBreaker .i1 fun r =>
        { r with holder := some (.transfer .ba) }).modXfer .ba fun x => { x with mode := .closedTransition }
    let k := s.control.transferSyncDemand s.sensed .ba
    (k.xfer .ba).stage = some .overlap ∧ (k.xfer .ba).inProgress = true ∧ (k.xfer .ba).closeStarted = true ∧
      (k.breaker .i1).op.map (fun op => op.kind) = some .opening := by decide

/-- An earlier transfer's close, cut by the open of the transfer that has reserved its breaker since, ends nothing; cut by a
protection trip it ends that transfer (R102). -/
theorem test_close_of_an_earlier_transfer :
    let k := (stageIn .openRetiring).control.modXfer .ba fun x => { x with serial := 2 }
    let report (p : Party) (c : Cause) : OpReport :=
      { breaker := .ma, op := ⟨.close, .transfer .ba, .transfer, none, 0, 0, 1⟩, fin := .cut p c
        transfer := some ⟨.ba, 2⟩, byAttempt := false }
    k.transferOpEnded panel.sensed .ba (report (.transfer .ba) .transfer) = k ∧
    ((k.transferOpEnded panel.sensed .ba (report .protection .overcurrent)).xfer .ba).result = .protectionTrip := by
  decide

/-- A port whose close becomes a claim request is told its position in the list (R75). -/
theorem test_claim_position : demandAnswer (.claim 2) = ⟨.accepted, .bytes [2]⟩ := by decide

/-- The end of a port's close releases its reservation, though its claim request only waits (R60). -/
theorem test_port_close_releases :
    let k := (settledPanel.control.modBreaker .ma fun r => { r with holder := some (.port .cpA none) }).setClaim .ba
      { holder := none, waiting := [⟨.ma, .port .cpA, 0⟩] }
    let op := newOperation panel.sensed k .ma .close (.port .cpA) .operator none
    let k' := k.reportEnd State.reset.sensed .ma op .completed
    (k'.breaker .ma).holder = none ∧ (k'.claim .ba).waiting.length = 1 ∧ claimingPorts k' .ma = [.cpA] := by decide

/-- An absent field is given as 255 (R183): a stage timer's state and a backup watch. -/
theorem test_absent_fields : Timer.off.runningOrFrozen = [255] ∧ watchByte false = [255] := by decide

/-- A step pending in closed CLOSE_ARRIVING is used by the passage to OVERLAP, in hold too (R105, R106). -/
theorem test_step_used_at_overlap :
    let s := having (ran (.hold .cpP) (stageIn .closeArriving)) fun k =>
      (k.modBreaker .i1 fun r => { r with observed := .closed }).modXfer .ba fun x =>
        { x with mode := .closedTransition, attempt := some .a0, stepPending := true }
    let k := s.control.transferAttemptEnded s.sensed .ba
      { number := .a0, breaker := .ma, requester := .transfer .ba, result := .success, fin := none, refusal := none }
    s.control.tsq.hold = true ∧ (k.xfer .ba).stage = some .overlap ∧ (k.xfer .ba).stepPending = false := by decide

theorem witness_SequenceResetEndsEverything :
    (stageIn .reserve).inReset = false ∧ ((claiming false).control.claim .gb).waiting.length ≤ 8 ∧
      (stageIn .reserve).admits .cpP .operate := by
  refine ⟨by decide, by decide, ?_⟩
  unfold State.admits; decide

/-! ## Witnesses: slots, load blocks and protection -/

theorem witness_SlotsEnterStates :
    (panel.control.slot .s1).state ≠ .online ∧ ((slotIn .online).control.slot .s1).state = .online ∧
      panel.control.tsq.hold = false := by decide

theorem witness_SlotTimersAndReadyAreTaken :
    ([SlotState.starting, .synchronizing, .unloading, .cooldown].map fun st =>
      (((slotIn st).control.slot .s1).state = st && ((slotIn st).control.slot .s1).timer.due panel.now &&
        ((slotIn st).control.slot .s1).ramp.due panel.now)) = List.replicate 4 true ∧
    ((slotIn .starting).control.slot .s1).ready = false ∧
    ([SlotState.unavailable, .standby, .starting, .awaitingBus, .synchronizing, .closing, .online, .unloading, .cooldown,
      .failed].all fun st =>
        ((readySlot st).control.slot .s1).state = st && ((readySlot st).control.slot .s1).ready) = true ∧
    ownCloseInFlight (readySlot .closing).control .s1 = false ∧
    ownCloseInFlight (closingSlot .closing).control .s1 = true ∧
    ownCloseInFlight (closingSlot .synchronizing).control .s1 = true ∧
    ((readySlot .unloading).control.slot .s1).openDemanded = false ∧
    isLive (live (slotIn .starting) .g1).sensed (slotIn .starting).control (slotChannel .s1) = true := by decide

/-- A slot in each state; the duty limits of BIAS_SET meet at 1000 and 1001; the last source and one that is not. -/
theorem witness_SlotRequestsFollowTheTables :
    settledPanel.admits .cpP .operate ∧
    (slotOf 1 = some .s1 ∧ slotOf 6 = some .s6 ∧ slotOf 0 = none ∧ slotOf 7 = none) ∧
    ([SlotState.unavailable, .standby, .starting, .awaitingBus, .synchronizing, .closing, .online, .unloading, .cooldown,
      .failed].all fun st => ((slotIn st).control.slot .s1).state = st) = true ∧
    ownCloseInFlight (slotIn .synchronizing).control .s1 = false ∧
    lastSource (slotIn .online).control .s1 = false ∧
    lastSource ({ (slotIn .online).control with
      tiu := { panel.control.tiu with supply := .ofFn fun _ => .gen } } : Control) .s1 = true ∧
    ((slotIn .failed).control.breaker .g1).observed = .opened ∧ ¬(1000 < (1000 : Word16).toNat) ∧
    1000 < (1001 : Word16).toNat := ⟨settledPanel_operates, by decide⟩

/-- A period under way with a duty of 1000 on the second slot's output. -/
def fullDuty : State :=
  having panel fun k =>
    { k with gsc := { k.gsc with bias := { k.gsc.bias with duties := k.gsc.bias.duties.set .s2 1000 } } }

/-- The first period ends at tick 20,000, and the high time of a duty of 500 at tick 10,000. -/
theorem witness_BiasOutputsFollowTheDuties :
    let b := panel.control.gsc.bias
    reached (b.start + BitVec.ofNat 32 b.period) 20000 = true ∧
    reached (b.start + BitVec.ofNat 32 b.period) 19999 = false ∧ b.duties.get .s1 < 1000 ∧
    b.period * b.duties.get .s1 / 1000 ≤ ((10000 : Word32) - b.start).toNat ∧
    ((9999 : Word32) - b.start).toNat < b.period * b.duties.get .s1 / 1000 ∧
    1000 ≤ fullDuty.control.gsc.bias.duties.get .s2 ∧ fullDuty.inReset = false := by decide

/-- A state in which F1 and F2 are GB-fed, and every timer of LDM has run out. -/
def genFed : State :=
  having settledPanel fun k =>
    { k with
      tiu := { k.tiu with supply := .ofFn fun _ => .gen }
      ldm := { k.ldm with
        blocks := .ofFn fun f => { k.blockRec f with state := if f = .f1 || f = .f2 then .connected else .openOther }
        overload := .running 0
        restoreTimer := .running 0
        uf := .ofFn fun _ => .running 0 } }

theorem witness_LoadTimersShedAndRestore :
    genFed.control.ldm.overload.due genFed.now = true ∧ genFed.control.ldm.restoreTimer.due genFed.now = true ∧
    (genFed.control.ldm.uf.get .stage2).due genFed.now = true ∧
    Block.all.filter (gbFed genFed.control) = [.f1, .f2] ∧
    genFed.control.common.shedPriority.get .f1 < genFed.control.common.shedPriority.get .f2 ∧
    Block.all.filter (gbFed settledPanel.control) = [] := by decide

theorem witness_LoadRequestsActOnTheNamedBlocks :
    panel.inReset = false ∧ panel.admits .cpP .operate := ⟨by decide, panel_operates⟩

/-- A current at pickup exactly, one sixteenth below it, and the reverse power of section 8.6 at its threshold. -/
theorem witness_ElementsStepByTheRules :
    f2Settings.pickup ≠ 0 ∧ multiple 400 400 = 16 ∧ multiple 399 400 = 15 ∧
    (f2Settings.curve.map fun x => x.threshold).head? = some 16 ∧ reverseThreshold panel.control .s1 = 100 ∧
    (panel.control.breaker .g1).observed ≠ .opened := by decide

/-- A frame on the panel's FRESH image, whose step of F2 at pickup 400 on curve 1 fills the bucket by the rate. -/
theorem witness_FramesStepTheElements :
    checksum (zeroFrame 7) = 0 ∧ panel.sensed.mlr.lastSeq ≠ some ((zeroFrame 7).headD 0) ∧
    panel.sensed.mlr.fresh = true ∧ State.reset.sensed.mlr.fresh = false ∧ breakerSlot .f2 = none ∧
    breakerSlot .g1 = some .s1 := by decide

/-- Trips with each effect on PRU, and a watch that ends. -/
theorem witness_TripsAreNoticed :
    let k := panel.control
    (k.lockout .f6).flag = false ∧ k.group.lockoutOnTrip.get .f6 = true ∧ (k.breaker .f6).observed ≠ .opened ∧
    ((k.tripTaken panel.sensed .f6 .backup).prot .f6).backupWatch = true ∧
    ((settledPanel.control.tripTaken panel.sensed .f6 .backup).prot .f6).backupWatch = false ∧
    ((k.tripTaken panel.sensed .f6 .overcurrent).prot .f6).failure =
      .running (BitVec.ofNat 32 k.group.failureTime) ∧
    (((k.tripTaken panel.sensed .f6 .backup).watchEnded panel.sensed .f6 (.failed .noMovement)).lockout .f6) =
      ⟨true, .backupFailed⟩ := by decide

theorem witness_FailedBreakersAreBackedUp :
    let k := settledPanel.control.modProt .f6 fun r => { r with failure := .running 0 }
    (k.prot .f6).failure.due panel.now = true ∧ (k.breaker .f6).observed = .opened ∧
    (panel.control.breaker .f6).observed ≠ .opened ∧ ¬(panel.control.group.failureCurrent ≤ 0) ∧
    ((k.lockout .f6).flag = false) := by decide

/-! ## Witnesses: ports, keys, events and the store -/

theorem witness_RolesChangeByTheTables :
    Port.cpA ≠ .cpP ∧ ((supervised true).control.port .cpA).role = .active ∧
    ((supervised true).control.port .cpA).lapse.due (atMs (supervised true) 2000).now = true ∧
    (State.reset.control.port .cpA).role = .standby ∧ State.reset.inReset = false := by decide

/-- The queue right after reset is sound, with one unread event; the numbers meet at 0 and 1 and at 4 and 5. -/
theorem witness_EventsAreReadFromTheCursor :
    panel.control.erq.Sound ∧ panel.admits .cpP .operate ∧ unread panel.control .cpP = 1 ∧
    (0 : Byte).toNat < 1 ∧ 1 ≤ (1 : Byte).toNat ∧ (4 : Byte).toNat ≤ 4 ∧ 4 < (5 : Byte).toNat := by
  refine ⟨⟨by decide, ⟨by decide, trivial⟩, ?_⟩, panel_operates, by decide, by decide, by decide, by decide, by decide⟩
  intro p; cases p <;> decide

/-- A key input with a new level whose 50 ms have run out, with hold on and off. -/
theorem witness_KeyLevelsTakeEffect :
    let s := ran (.keyInputChange .localKey false) (atMs (ran (.keyInputChange .localKey true) panel) 50)
    (s.control.cpi.keys.localKey.input = false) ∧
    ((ran (.keyInputChange .settingsKey true) State.reset).control.cpi.keys.settingsKey.timing.due 50 = true) ∧
    ((ran (.keyInputChange .settingsKey true) State.reset).control.cpi.keys.settingsKey.timing.due 49 = false) ∧
    (ran (.hold .cpP) panel).control.tsq.hold = true := by decide

/-- A write of each kind in flight. -/
def writing (kind : WriteKind) (later : List Breaker) : State :=
  having panel fun k =>
    let k1 := k.startWrite panel.sensed kind
    { k1 with sst := { k1.sst with pendingLockouts := later } }

theorem witness_NonvolatileWritesComplete :
    ((writing .defaults []).control.sst.write.map fun w => w.kind) = some .defaults ∧
    ((writing (.lockout [.i1, .f2]) [.g1]).control.sst.write.map fun w => w.kind) = some (.lockout [.i1, .f2]) ∧
    ((writing (.lockout [.i1, .f2]) [.g1]).control.sst.pendingLockouts ≠ []) := by decide

theorem witness_GroupsAndWindowsAreSelected :
    GroupNo.ofIndex 3 = some .n3 ∧ GroupNo.ofIndex 4 = none ∧ panel.control.sst.working.active = .n0 ∧
    panel.control.sst.write = none ∧ (writing .defaults []).control.sst.write.isSome = true ∧
    panel.admits .cpP .operate ∧ panel.admits .cpP .setting := by
  refine ⟨by decide, by decide, by decide, by decide, by decide, panel_operates, panel_sets⟩

/-- Writes of the live threshold: out of range at 4999 and 9501, passing at 5000 and 9500, and of an unknown item. -/
theorem witness_SettingsAreWrittenByTheChecks :
    ((itemNamed panel.control .cpP 2 0).map fun r => r.item) = some .liveThreshold ∧
    itemNamed panel.control .cpP 63 0 = none ∧ Item.liveThreshold.inRange 4999 = false ∧
    Item.liveThreshold.inRange 5000 = true ∧ Item.liveThreshold.inRange 9500 = true ∧
    Item.liveThreshold.inRange 9501 = false ∧
    (panel.control.sst.working.writeItem .n0 .liveThreshold .one 5000).consistent = true ∧
    panel.admits .cpP .setting := by
  refine ⟨by decide, by decide, by decide, by decide, by decide, by decide, by decide, panel_sets⟩

/-- The buffer right after CURVE_BEGIN, and at its last entry. -/
theorem witness_CurvesAreLoadedThroughTheBuffer :
    (ran (.curveBegin .cpP 3) panel).control.pru.buffer = { owner := some .cpP, curve := .c3, index := 0, entries := [] } ∧
    panel.control.pru.buffer.owner ≠ some .cpP ∧ CurveNo.ofIndex 4 = none ∧ curveValid (defaultCurve .c0) = true ∧
    curveValid (defaultCurve .c0).reverse = false ∧ panel.admits .cpP .setting := by
  refine ⟨by decide, by decide, by decide, by decide, by decide, panel_sets⟩

/-! ## Witnesses: the whole part -/

theorem witness_OnlyTheNamedCommandsChange :
    panel.inReset = false ∧ exec .restoreIntervalEnd panel = .next (ran .restoreIntervalEnd panel) :=
  ⟨by decide, rfl⟩

/-- The premises of the four invariants hold of a state with commands waiting, and its step answers a next state. -/
theorem witness_StepsKeepTheInvariants :
    let s : State := { supervised true with pending := [.operateOpen .cpA 0] }
    s.control.RolesSound ∧ s.control.CoilsSound ∧ s.control.erq.Sound ∧ s.control.ElementsBounded ∧
      ∃ t, step s = .next t := by
  refine ⟨supervised_sound, ?_, ⟨by decide, ⟨by decide, trivial⟩, ?_⟩, ?_, ⟨_, rfl⟩⟩
  · intro b; cases b <;> exact ⟨rfl, rfl⟩
  · intro p; cases p <;> decide
  · intro b; cases b <;> exact ⟨by decide, by decide, by decide, by decide⟩

end Sys2Proof.Tests
end

section
/-! Front-end frames (R1 to R5, R181): when a frame is accepted, what MLR then holds, and what the blocks are told. -/

namespace Sys2Proof.Machine

/-- The sequence number a frame carries is its first byte (R182). -/
theorem frameSeq_eq_headD (l : List Byte) : frameSeq l = l.headD 0 := by
  cases l <;> rfl

/-- The checks of R1 and R2, of which a frame has to pass every one. -/
theorem frameAccepted_iff (m : Mlr) (l : List Byte) (extraBits : Nat) :
    frameAccepted m l extraBits = true ↔
      l.length = 74 ∧ extraBits = 0 ∧ checksum l = 0 ∧ m.lastSeq ≠ some (l.headD 0) := by
  simp [frameAccepted, frameSeq_eq_headD, and_assoc]

/-- A discarded frame changes nothing (R2). -/
theorem exec_measurementFrame_discarded (bytes : List Byte) (extraBits : Nat) (s : State)
    (h : frameAccepted s.sensed.mlr bytes extraBits = false) : exec (.measurementFrame bytes extraBits) s = .next s := by
  change execMeasurementFrame bytes extraBits s = _
  simp [execMeasurementFrame, h]

/-- An accepted frame changes MLR alone on the measured side, and its deliveries are all taken up (R3). -/
theorem exec_measurementFrame_accepted (bytes : List Byte) (extraBits : Nat) (s : State) (hr : s.inReset = false)
    (h : frameAccepted s.sensed.mlr bytes extraBits = true) :
    let m := s.sensed.mlr
    let m' := m.accept s.now bytes
    let e : Sensed := { s.sensed with mlr := m' }
    exec (.measurementFrame bytes extraBits) s = .next ({ s with sensed := e }.settled
      (s.blocks.frameDelivered e (m'.fresh && !m.fresh) (m'.firstFresh && !m.firstFresh))) := by
  change execMeasurementFrame bytes extraBits s = _
  simp only [execMeasurementFrame, h, if_true, State.actSensed_running _ _ _ hr]
  rfl

/-! ## MLR after an accepted frame -/

@[simp] theorem Mlr.accept_image (m : Mlr) (now : Word32) (l : List Byte) : (m.accept now l).image = frameImage l := rfl

@[simp] theorem Mlr.accept_lastSeq (m : Mlr) (now : Word32) (l : List Byte) :
    (m.accept now l).lastSeq = some (l.headD 0) := congrArg some (frameSeq_eq_headD l)

@[simp] theorem Mlr.accept_watchdog (m : Mlr) (now : Word32) (l : List Byte) :
    (m.accept now l).watchdog = .running (now + 12) := rfl

/-- A FRESH image stays FRESH and its run is no longer counted (R5). -/
theorem Mlr.accept_of_fresh (m : Mlr) (now : Word32) (l : List Byte) (h : m.fresh = true) :
    (m.accept now l).fresh = true ∧ (m.accept now l).runCount = m.runCount := by
  simp [Mlr.accept, h]

/-- The first frame of a run leaves the image STALE (R5). -/
theorem Mlr.accept_first_of_run (m : Mlr) (now : Word32) (l : List Byte) (h : m.fresh = false) (hrun : m.runCount = 0) :
    (m.accept now l).fresh = false ∧ (m.accept now l).runCount = 1 ∧ (m.accept now l).firstFresh = m.firstFresh := by
  simp [Mlr.accept, h, hrun]

/-- The second frame of a run makes the image FRESH (R5). -/
theorem Mlr.accept_second_of_run (m : Mlr) (now : Word32) (l : List Byte) (h : m.fresh = false) (hrun : m.runCount = 1) :
    (m.accept now l).fresh = true ∧ (m.accept now l).runCount = 2 ∧ (m.accept now l).firstFresh = true := by
  simp [Mlr.accept, h, hrun]

@[simp] theorem frameImage_volt (l : List Byte) (c : Channel) :
    (frameImage l).volt.get c = byteAt l (1 + 2 * c.index) * 256 + byteAt l (2 + 2 * c.index) := by
  simp only [frameImage, PerChannel.get_ofFn, wordAt, show 1 + 2 * c.index + 1 = 2 + 2 * c.index by omega]

@[simp] theorem frameImage_curr (l : List Byte) (b : Breaker) :
    (frameImage l).curr.get b = byteAt l (23 + 2 * b.index) * 256 + byteAt l (24 + 2 * b.index) := by
  simp only [frameImage, PerBreaker.get_ofFn, wordAt, show 23 + 2 * b.index + 1 = 24 + 2 * b.index by omega]

@[simp] theorem frameImage_power (l : List Byte) (n : Slot) :
    (frameImage l).power.get n = signedAt l (61 + 2 * n.index) := by
  simp only [frameImage, PerSlot.get_ofFn]

/-! ## The start-up delay -/

/-- The first change to FRESH after device reset starts the start-up delay of 2 s (R181). -/
theorem Control.frameDelivered_first_startUpDelay (e : Sensed) (fresh : Bool) (k : Control) :
    (k.frameDelivered e fresh true).tsq.startUpDelay = .running (e.now + 2000) := rfl

/-- The consequences of a command leave the start-up delay as its operation set it. -/
theorem State.settled_startUpDelay (s : State) (k : Control) :
    (s.settled k).control.tsq.startUpDelay = k.tsq.startUpDelay :=
  Control.startUpDelay_of_held (State.settled_held s k)

/-- Settles O15, by the two outcomes of a frame: discarded without effect, or accepted, with the run of R5 by its three
cases and the start-up delay kept by all that follows from the frame. -/
theorem framesAreJudgedAndTaken : Obligations.FramesAreJudgedAndTaken := by
  refine ⟨rfl, fun bytes extraBits s hfail => ?_, fun bytes s hr hlen hsum hseq => ?_⟩
  · apply exec_measurementFrame_discarded
    rw [Bool.eq_false_iff, Ne, frameAccepted_iff]
    rintro ⟨hlen, hextra, hsum, hseq⟩
    rcases hfail with h | h | h | h
    · exact h hlen
    · exact h hextra
    · exact h hsum
    · exact hseq h
  · have hacc : frameAccepted s.sensed.mlr bytes 0 = true := (frameAccepted_iff ..).2 ⟨hlen, rfl, hsum, hseq⟩
    refine ⟨_, exec_measurementFrame_accepted bytes 0 s hr hacc, rfl, rfl, frameImage_volt bytes, frameImage_curr bytes,
      frameImage_power bytes, Mlr.accept_lastSeq .., Mlr.accept_watchdog .., Mlr.accept_of_fresh _ _ _,
      Mlr.accept_first_of_run _ _ _, fun hstale hrun => ?_⟩
    obtain ⟨hfresh, hcount, hfirst⟩ := Mlr.accept_second_of_run s.sensed.mlr s.now bytes hstale hrun
    refine ⟨hfresh, hcount, hfirst, fun hnever => ?_⟩
    simp only [State.settled_startUpDelay, hfirst, hnever]
    rfl

end Sys2Proof.Machine
end

section
/-! Qualified edges (R9 to R12): the channel record after each of the four judgements of an edge. -/

namespace Sys2Proof.Machine

/-- A qualified edge replaces its channel's record, and what it tells is all taken up (R9, R13). -/
theorem exec_qualifiedEdge_ended (c : Channel) (q : Qualification) (s : State) (hr : s.inReset = false)
    (hq : (s.sensed.pcu.get c).qual = some q) (hend : q.length ≤ (s.sensed.clock.timebase - q.capture).toNat) :
    let r := s.sensed.pcu.get c
    let e := s.sensed.setChannel c (r.edge q.capture s.sensed.clock.timebase)
    exec (.qualifiedEdge c) s =
      .next ({ s with sensed := e }.settled (s.blocks.edgeDelivered e c r.state (judgeEdge r q.capture))) := by
  have hrun : ¬ q.elapsed s.sensed.clock.timebase < q.length := Nat.not_lt.2 hend
  change execQualifiedEdge c s = _
  simp only [execQualifiedEdge, hq, if_neg hrun, State.actSensed_running _ _ _ hr]
  rfl

/-! ## The four judgements (R9) -/

section Judgements

variable (r : ChannelRec) (capture : Word32)

theorem judgeEdge_first (h : r.state = .noSignal) : judgeEdge r capture = .first := by
  simp [judgeEdge, h]

theorem judgeEdge_early (h : r.state ≠ .noSignal) (hlt : (capture - r.cLast).toNat < 142858) :
    judgeEdge r capture = .early := by
  simp only [judgeEdge, if_neg h, if_pos hlt]

theorem judgeEdge_period (h : r.state ≠ .noSignal) (hge : 142858 ≤ (capture - r.cLast).toNat)
    (hle : (capture - r.cLast).toNat ≤ 250000) : judgeEdge r capture = .period (capture - r.cLast).toNat := by
  simp only [judgeEdge, if_neg h, if_neg (Nat.not_lt.2 hge), if_pos hle]

theorem judgeEdge_outOfWindow (h : r.state ≠ .noSignal) (hgt : 250000 < (capture - r.cLast).toNat) :
    judgeEdge r capture = .outOfWindow := by
  have hge : ¬ (capture - r.cLast).toNat < 142858 := by omega
  simp only [judgeEdge, if_neg h, if_neg hge, if_neg (Nat.not_le.2 hgt)]

end Judgements

/-! ## The channel record -/

/-- The record of a channel with all that R9, R10 and R12 make of an edge; the last-edge timer and the qualification, which
R8 and R11 move, as they were (so the timebase given here plays no part, as `edge_eq_judged` shows). -/
def ChannelRec.judged (r : ChannelRec) (capture : Word32) : ChannelRec :=
  { r.edge capture 0 with lastEdge := r.lastEdge, qual := r.qual }

section Record

variable (r : ChannelRec) (capture timebase : Word32)

/-- Every qualified edge ends its qualification and restarts the last-edge timer (R11), whatever its judgement. -/
theorem ChannelRec.edge_eq_judged :
    r.edge capture timebase = { r.judged capture with lastEdge := some (timebase + 500000), qual := none } := by
  unfold ChannelRec.judged ChannelRec.edge
  cases judgeEdge r capture <;> rfl

theorem ChannelRec.judged_first (h : judgeEdge r capture = .first) :
    r.judged capture = { r with cPrev := r.cLast, cLast := capture, state := .acquiring, good := 0 } := by
  simp only [ChannelRec.judged, ChannelRec.edge, h, ChannelRec.commit]

theorem ChannelRec.judged_early (h : judgeEdge r capture = .early) : r.judged capture = { r with early := true } := by
  simp only [ChannelRec.judged, ChannelRec.edge, h]

/-- The third accepted period in a row brings TRACKING, and the good count stays at 3 from there (R10). -/
theorem ChannelRec.judged_period (ticks : Nat) (h : judgeEdge r capture = .period ticks) :
    r.judged capture = { r with
      cPrev := r.cLast, cLast := capture, period := ticks, freq := frequency ticks, cycles := r.cycles + 1,
      good := min 3 (r.good + 1), early := false, state := if 2 ≤ r.good then .tracking else r.state } := by
  have hthird : min 3 (r.good + 1) = 3 ↔ 2 ≤ r.good := by omega
  simp only [ChannelRec.judged, ChannelRec.edge, h, ChannelRec.commit, hthird]

theorem ChannelRec.judged_outOfWindow (h : judgeEdge r capture = .outOfWindow) :
    r.judged capture = { r with cPrev := r.cLast, cLast := capture, good := 0, state := .acquiring } := by
  simp only [ChannelRec.judged, ChannelRec.edge, h, ChannelRec.commit]

end Record

/-- The frequency of an accepted period lies between 40,000 and 69,999 mHz (R12). -/
theorem frequency_bounds {ticks : Nat} (hge : 142858 ≤ ticks) (hle : ticks ≤ 250000) :
    40000 ≤ frequency ticks ∧ frequency ticks ≤ 69999 := by
  have hpos : 0 < ticks := by omega
  constructor
  · exact (Nat.le_div_iff_mul_le hpos).2 (by omega)
  · exact Nat.lt_succ_iff.1 ((Nat.div_lt_iff_lt_mul hpos).2 (by omega))

/-- Settles O18, by the four judgements of an edge: the record judged is the one R9 to R12 give, and the record held
differs from it in the last-edge timer and the qualification alone. -/
theorem qualifiedEdgeMovesTheChannel : Obligations.QualifiedEdgeMovesTheChannel := by
  intro c q s hr hq hend
  let old := s.sensed.pcu.get c
  refine ⟨_, old.judged q.capture, exec_qualifiedEdge_ended c q s hr hq hend, ?_, ?first, ?early, ?period, ?outOfWindow⟩
  · simp only [State.settled_sensed, Sensed.setChannel, ChannelRec.edge_eq_judged, old]
  case first => exact fun h => old.judged_first _ (judgeEdge_first old _ h)
  case early => exact fun h hlt => old.judged_early _ (judgeEdge_early old _ h hlt)
  case period =>
    intro h hge hle
    have hrec := old.judged_period q.capture _ (judgeEdge_period old _ h hge hle)
    refine ⟨hrec, ?_⟩
    rw [hrec]
    exact frequency_bounds hge hle
  case outOfWindow => exact fun h hgt => old.judged_outOfWindow _ (judgeEdge_outOfWindow old _ h hgt)

end Sys2Proof.Machine
end

section
/-! One evaluation of an attempt (R27 to R33): its judgement by gates and conditions, the close it sends at the dwell,
and what becomes of the close sent. -/

namespace Sys2Proof.Machine

/-! ## The judgement -/

section Judgement

variable (e : Sensed) (k : Control) (a : Attempt) (x r : Channel)

/-- The first gate: an image that is not FRESH (R27). -/
theorem judgeAttempt_stale (hfresh : e.mlr.fresh = false) :
    judgeAttempt e k a x r =
      ({ a with lastCycle := some (e.pcu.get x).cycles, failing := .stale, count := 0 }, none) := by
  simp only [judgeAttempt, hfresh, Bool.not_false, if_true]

/-- The second gate: a channel of the breaker off TRACKING (R27). -/
theorem judgeAttempt_notTracking (hfresh : e.mlr.fresh = true)
    (htrack : ¬((e.pcu.get x).state = .tracking ∧ (e.pcu.get r).state = .tracking)) :
    judgeAttempt e k a x r =
      ({ a with lastCycle := some (e.pcu.get x).cycles, failing := .notTracking, count := 0 }, none) := by
  have hgate : ((e.pcu.get x).state ≠ .tracking || (e.pcu.get r).state ≠ .tracking) = true := by
    simpa only [Bool.or_eq_true, decide_eq_true_eq] using Decidable.not_and_iff_not_or_not.1 htrack
  simp only [judgeAttempt, hfresh, hgate, Bool.not_true, Bool.false_eq_true, if_false, if_true]

/-- Past the gates, captures out of order form no angle (R29). -/
theorem judgeAttempt_captureOrder (hfresh : e.mlr.fresh = true) (hx : (e.pcu.get x).state = .tracking)
    (hr : (e.pcu.get r).state = .tracking) (hangle : (measure e k a.breaker x r).angle = none) :
    judgeAttempt e k a x r =
      ({ a with
          lastCycle := some (e.pcu.get x).cycles
          lastSlip := some (measure e k a.breaker x r).slip
          lastDeltaV := some (measure e k a.breaker x r).deltaV
          failing := .captureOrder
          count := 0 }, some (measure e k a.breaker x r).slip) := by
  simp [judgeAttempt, failingCondition, nextCount, hfresh, hx, hr, hangle]

/-- Past the gates, captures in order form every value, and the conditions of R31 judge them. -/
theorem judgeAttempt_angle (hfresh : e.mlr.fresh = true) (hx : (e.pcu.get x).state = .tracking)
    (hr : (e.pcu.get r).state = .tracking) {theta thetaP : Int}
    (hangle : (measure e k a.breaker x r).angle = some (theta, thetaP)) :
    judgeAttempt e k a x r =
      ({ a with
          lastCycle := some (e.pcu.get x).cycles
          lastSlip := some (measure e k a.breaker x r).slip
          lastTheta := some theta
          lastThetaP := some thetaP
          lastDeltaV := some (measure e k a.breaker x r).deltaV
          failing := failingCondition e k a.breaker x r (measure e k a.breaker x r)
          count := nextCount k.group.dwell a.count
            (failingCondition e k a.breaker x r (measure e k a.breaker x r)) },
        some (measure e k a.breaker x r).slip) := by
  simp [judgeAttempt, hfresh, hx, hr, hangle]

/-- At the gates too, the count is moved by the failing condition alone (R32). -/
theorem judgeAttempt_count :
    (judgeAttempt e k a x r).1.count = nextCount k.group.dwell a.count (judgeAttempt e k a x r).1.failing := by
  unfold judgeAttempt
  split
  case isTrue => rfl
  case isFalse => split <;> rfl

theorem judgeAttempt_lastCycle : (judgeAttempt e k a x r).1.lastCycle = some (e.pcu.get x).cycles := by
  unfold judgeAttempt
  split
  case isTrue => rfl
  case isFalse => split <;> rfl

/-- A judgement writes the fields of the evaluation and no other. -/
theorem judgeAttempt_frame :
    let a' := (judgeAttempt e k a x r).1
    a' = { a with
      lastCycle := a'.lastCycle, failing := a'.failing, count := a'.count, lastSlip := a'.lastSlip,
      lastTheta := a'.lastTheta, lastThetaP := a'.lastThetaP, lastDeltaV := a'.lastDeltaV } := by
  unfold judgeAttempt
  split
  case isTrue => rfl
  case isFalse => split <;> rfl

theorem judgeAttempt_requester : (judgeAttempt e k a x r).1.requester = a.requester := by
  rw [judgeAttempt_frame]

theorem judgeAttempt_stepPermission : (judgeAttempt e k a x r).1.stepPermission = a.stepPermission := by
  rw [judgeAttempt_frame]

/-- An evaluation stopped at a gate forms no value, so the last values stand (R27). -/
theorem judgeAttempt_keeps_values
    (hgate : e.mlr.fresh = false ∨ ¬((e.pcu.get x).state = .tracking ∧ (e.pcu.get r).state = .tracking)) :
    let a' := (judgeAttempt e k a x r).1
    a'.lastSlip = a.lastSlip ∧ a'.lastTheta = a.lastTheta ∧ a'.lastThetaP = a.lastThetaP ∧
      a'.lastDeltaV = a.lastDeltaV := by
  cases hfresh : e.mlr.fresh with
  | false => rw [judgeAttempt_stale e k a x r hfresh]; exact ⟨rfl, rfl, rfl, rfl⟩
  | true =>
    have htrack := hgate.resolve_left (by simp [hfresh])
    rw [judgeAttempt_notTracking e k a x r hfresh htrack]
    exact ⟨rfl, rfl, rfl, rfl⟩

/-- The captures in order, the failing condition is the first of the five that R31 lists. -/
theorem failingCondition_eq_firstFailing (b : Breaker) (m : Measures) {theta thetaP : Int}
    (hangle : m.angle = some (theta, thetaP)) :
    failingCondition e k b x r m = (firstFailing [
      (classOf e k x ≠ .live || classOf e k r ≠ .live || decide (k.group.ovPickup < e.mlr.image.volt.get x) ||
        decide (k.group.ovPickup < e.mlr.image.volt.get r), Cause.notLive),
      (decide (k.group.slipLimit < m.slip.natAbs), .slip),
      (k.common.positiveSlipOnly.get b && decide (m.slip < 0), .slipSign),
      (decide (k.group.angleWindow < thetaP.natAbs), .angle),
      (decide (k.group.voltageDiff < m.deltaV), .voltageDifference)]).getD .none := by
  simp only [failingCondition, hangle, firstFailing, isLive, Bool.not_and, ← decide_not, Nat.not_le, decide_eq_true_eq,
    apply_ite (Option.getD · Cause.none), Option.getD_some, Option.getD_none, ne_eq]

end Judgement

/-! ## The count -/

theorem nextCount_none (dwell count : Nat) : nextCount dwell count .none = min (count + 1) dwell := rfl

theorem nextCount_failing (dwell count : Nat) {f : Cause} (h : f ≠ .none) : nextCount dwell count f = 0 := if_neg h

/-! ## The close at the dwell -/

/-- A port's close is never withheld; that of an automatic requester is, in hold and without step permission (R33). -/
theorem closeReleased_iff (k : Control) (a : Attempt) :
    closeReleased k a = true ↔
      (∃ p, a.requester = .port p) ∨ k.tsq.hold = false ∨ a.stepPermission = true := by
  unfold closeReleased
  cases a.requester <;> simp

/-- What an evaluation tells: a generator slot hears of its own attempt's, and nobody of another's (R34). -/
def evaluationNotices (a : Attempt) (slip : Option Int) (failing : Cause) (count : Nat) : List Notice :=
  match a.requester with
  | .gen s => [.evaluation s slip failing count]
  | _ => []

theorem Control.tell_nil (k : Control) : k.tell [] = k := by
  simp only [Control.tell, List.append_nil]

section Evaluation

variable (e : Sensed) (k : Control) (n : AttemptNo) (a : Attempt) (x r : Channel)

/-- The blocks after the judgement of an evaluation, before any close. -/
def Control.judgedAt : Control :=
  (k.setAttempt n (judgeAttempt e k a x r).1).tell (evaluationNotices a (judgeAttempt e k a x r).2
    (judgeAttempt e k a x r).1.failing (judgeAttempt e k a x r).1.count)

/-- The attempt as its close is sent: in hold its step permission is used. -/
def attemptSent : Attempt :=
  { (judgeAttempt e k a x r).1 with stepPermission := a.stepPermission && !k.tsq.hold }

theorem attemptSent_eq :
    attemptSent e k a x r =
      if k.tsq.hold then { (judgeAttempt e k a x r).1 with stepPermission := false }
      else (judgeAttempt e k a x r).1 := by
  unfold attemptSent
  rw [← judgeAttempt_stepPermission e k a x r]
  cases k.tsq.hold with
  | false => simp only [Bool.not_false, Bool.and_true, Bool.false_eq_true, if_false]
  | true => simp only [Bool.not_true, Bool.and_false, if_true]

/-- An evaluation is its judgement, and the close after it if the count ends at the dwell and nothing withholds it. -/
theorem Control.evaluate_eq :
    k.evaluate e n a x r =
      if (judgeAttempt e k a x r).1.failing = .none ∧ (judgeAttempt e k a x r).1.count = k.group.dwell ∧
          closeReleased k (judgeAttempt e k a x r).1 = true then
        ((k.judgedAt e n a x r).setAttempt n (attemptSent e k a x r)).sendClose e n (attemptSent e k a x r)
      else k.judgedAt e n a x r := by
  unfold Control.evaluate Control.judgedAt evaluationNotices
  rw [attemptSent_eq]
  cases a.requester <;>
    simp only [Control.tell_nil, Bool.and_eq_true, decide_eq_true_eq, and_assoc]

/-- A judgement keeps the requester and the step permission, so R33 may be read off the attempt as it was before. -/
theorem closeSent_iff :
    ((judgeAttempt e k a x r).1.failing = .none ∧ (judgeAttempt e k a x r).1.count = k.group.dwell ∧
        closeReleased k (judgeAttempt e k a x r).1 = true) ↔
      (judgeAttempt e k a x r).1.failing = .none ∧ (judgeAttempt e k a x r).1.count = k.group.dwell ∧
        ((∃ p, a.requester = .port p) ∨ k.tsq.hold = false ∨ a.stepPermission = true) := by
  rw [closeReleased_iff, judgeAttempt_requester, judgeAttempt_stepPermission]

end Evaluation

/-! ## The close sent -/

section Close

variable (e : Sensed) (k : Control) (n : AttemptNo) (a : Attempt)

/-- The second check of R74 refuses the close. -/
theorem Control.sendClose_rechecked {why : Reason} (h : recheckRefusal k n a = some why) :
    k.sendClose e n a = k.endAttempt e n .closeFailed none (some why) := by
  simp only [Control.sendClose, h]

/-- BCU refuses the close. -/
theorem Control.sendClose_refused {why : Reason} (h : recheckRefusal k n a = none)
    (hout : (k.bcuClose e a.breaker a.requester.party (some n)).2 = .refused why) :
    k.sendClose e n a = (k.bcuClose e a.breaker a.requester.party (some n)).1.endAttempt e n .closeFailed none
      (some why) := by
  rcases hbcu : k.bcuClose e a.breaker a.requester.party (some n) with ⟨k1, answer⟩
  obtain rfl : answer = .refused why := by rw [← hout, hbcu]
  simp only [Control.sendClose, h, hbcu]

/-- BCU starts the close. -/
theorem Control.sendClose_started (h : recheckRefusal k n a = none)
    (hout : (k.bcuClose e a.breaker a.requester.party (some n)).2 = .started) :
    k.sendClose e n a = ((k.bcuClose e a.breaker a.requester.party (some n)).1.setAttempt n
      { a with state := .closeIssued }).tell [.closeIssued n a.requester] := by
  rcases hbcu : k.bcuClose e a.breaker a.requester.party (some n) with ⟨k1, answer⟩
  obtain rfl : answer = .started := by rw [← hout, hbcu]
  simp only [Control.sendClose, h, hbcu]

end Close

/-- Settles O22: the judgement by the two gates and the order of the captures, the close by the count and R33, and the
close sent by the second check and BCU's answer. -/
theorem inWindowCountMoves : Obligations.InWindowCountMoves := by
  refine ⟨fun e k a x r => ?judgement, fun e k n a x r => ?close⟩
  case judgement =>
    have hcount := judgeAttempt_count e k a x r
    refine ⟨fun hnone => ?_, fun hfail => ?_, judgeAttempt_lastCycle e k a x r, fun hfresh => ?_,
      fun hfresh htrack => ?_, judgeAttempt_keeps_values e k a x r, fun hfresh htrack => ?_,
      judgeAttempt_frame e k a x r⟩
    · rw [hcount, hnone, nextCount_none]
    · rw [hcount, nextCount_failing _ _ hfail]
    · rw [judgeAttempt_stale e k a x r hfresh]
    · rw [judgeAttempt_notTracking e k a x r hfresh htrack]
    · obtain ⟨hx, hr⟩ := htrack
      cases hangle : (measure e k a.breaker x r).angle with
      | none =>
        rw [judgeAttempt_captureOrder e k a x r hfresh hx hr hangle]
        exact ⟨rfl, rfl, fun _ => ⟨rfl, rfl, rfl⟩, nofun⟩
      | some angles =>
        obtain ⟨theta, thetaP⟩ := angles
        rw [judgeAttempt_angle e k a x r hfresh hx hr hangle]
        refine ⟨rfl, rfl, nofun, fun _ _ h => ?_⟩
        cases h
        exact ⟨rfl, rfl, failingCondition_eq_firstFailing e k x r a.breaker _ hangle⟩
  case close =>
    have hsent := closeSent_iff e k a x r
    have heval := k.evaluate_eq e n a x r
    exact ⟨fun hready => heval.trans (if_neg (mt hsent.1 hready)), fun hready => heval.trans (if_pos (hsent.2 hready)),
      fun _ => k.sendClose_rechecked e n a,
      fun hcheck => ⟨fun _ => k.sendClose_refused e n a hcheck, k.sendClose_started e n a hcheck⟩⟩

end Sys2Proof.Machine
end

section
/-! The start checks of a close (R46): the outcome of each check in its order, and the record of a CLOSE that starts. -/

namespace Sys2Proof.Machine

/-! ## What the start of a CLOSE leaves in the breaker records -/

/-- What keeps the breaker records for each member of a list keeps them for the whole list. -/
theorem forEach_bcu {α : Type} (l : List α) {f : α → Control → Control} (hf : ∀ a k, (f a k).bcu = k.bcu)
    (k : Control) : (forEach l f k).bcu = k.bcu := by
  induction l generalizing k with
  | nil => rfl
  | cons a l ih => exact (ih (f a k)).trans (hf a k)

@[simp] theorem Control.markStarted_bcu (k : Control) (b : Breaker) (p : Party) :
    (k.markStarted b p).bcu = k.bcu := by
  refine forEach_bcu _ (fun c k => ?_) k
  split
  · split <;> rfl
  · rfl

@[simp] theorem Control.tryGrant_bcu (e : Sensed) (k : Control) (c : ClaimBus) : (k.tryGrant e c).bcu = k.bcu := by
  unfold Control.tryGrant
  split
  · split <;> rfl
  · rfl

@[simp] theorem Control.claimOccasion_bcu (e : Sensed) (k : Control) (c : ClaimBus) :
    (k.claimOccasion e c).bcu = k.bcu := by
  unfold Control.claimOccasion
  split
  · rfl
  · exact k.tryGrant_bcu e c

@[simp] theorem Control.claimOccasions_bcu (e : Sensed) (k : Control) : (k.claimOccasions e).bcu = k.bcu :=
  forEach_bcu _ (fun c k => k.claimOccasion_bcu e c) k

@[simp] theorem Control.setSupply_bcu (k : Control) (l : Bus) : (k.setSupply l).bcu = k.bcu := by
  unfold Control.setSupply
  dsimp only
  split <;> rfl

@[simp] theorem Control.matchOverlaps_bcu (e : Sensed) (k : Control) (arrival : Option Breaker) :
    (k.matchOverlaps e arrival).bcu = k.bcu := rfl

/-- A recomputation of the groups writes no breaker record (R65 to R67, R76, R80). -/
@[simp] theorem Control.recompute_bcu (e : Sensed) (k : Control) (arrival : Option Breaker) :
    (k.recompute e arrival).bcu = k.bcu := by
  unfold Control.recompute
  split
  · simp only [claimOccasions_bcu, setSupply_bcu, matchOverlaps_bcu]
  · rfl

/-- A breaker record when this CLOSE has started (R46). -/
def BreakerRec.closeStarted (r : BreakerRec) (op : Operation) : BreakerRec :=
  { r with op := some op, commanded := .closed, lastCause := op.cause, closeCoil := true }

/-- The start of a CLOSE writes its own breaker's record alone: the mark on its claim, the recomputation and the notice
to LDM write none (R46, R65, R77, R141). -/
theorem Control.beginClose_bcu (e : Sensed) (k : Control) (b : Breaker) (p : Party) (n : Option AttemptNo) :
    (k.beginClose e b p n).bcu =
      k.bcu.modify b fun r => r.closeStarted (newOperation e k b .close p (demandCause k b p) n) := by
  unfold Control.beginClose
  dsimp only
  generalize (if closedArrival k b p then some b else none) = arrival
  have hrest (k1 : Control) : ((k1.markStarted b p).recompute e arrival).bcu = k1.bcu := by
    rw [recompute_bcu, markStarted_bcu]
  split
  · split <;> exact hrest _
  · exact hrest _

/-- The record of a breaker whose CLOSE has started (R46). -/
theorem Control.beginClose_breaker (e : Sensed) (k : Control) (b : Breaker) (p : Party) (n : Option AttemptNo) :
    (k.beginClose e b p n).breaker b =
      (k.breaker b).closeStarted (newOperation e k b .close p (demandCause k b p) n) := by
  unfold Control.breaker
  rw [Control.beginClose_bcu, PerBreaker.get_modify_same]

/-! ## The checks in their order -/

section StartChecks

variable {k : Control} {b : Breaker} {p : Party}

/-- The reservation test (R46, order 5): another party's reservation, or none where the party must hold one. -/
theorem reservedAgainst_iff :
    reservedAgainst k b p = true ↔ (∃ h, (k.breaker b).holder = some h ∧ h.isParty p = false) ∨
      ((k.breaker b).holder = none ∧ ((∃ l, p = .transfer l) ∨ (∃ m, p = .gen m) ∨ p = .load)) := by
  unfold reservedAgainst
  cases (k.breaker b).holder with
  | some h => simp
  | none => cases p <;> simp [Party.mustHold]

/-- The service test (R46, order 3): only CP_P closes a breaker that is out of service. -/
theorem serviceBars_iff :
    (k.outOfService b && p ≠ .port .cpP) = true ↔ ¬(k.outOfService b = true → p = .port .cpP) := by
  simp

/-- The lockout refuses first (R46, order 1). -/
theorem startRefusal_lockout (hlock : (k.lockout b).flag = true) : startRefusal k b p = some .lockout :=
  if_pos hlock

/-- The close block refuses next (R46, order 2). -/
theorem startRefusal_closeBlocked (hlock : (k.lockout b).flag = false) (hblock : (k.breaker b).closeBlocked = true) :
    startRefusal k b p = some .closeBlocked := by
  simp [startRefusal, hlock, hblock]

section Unlocked

variable (hunlocked : (k.lockout b).flag = false ∧ (k.breaker b).closeBlocked = false)
include hunlocked

/-- The service state refuses an unlocked breaker (R46, order 3). -/
theorem startRefusal_outOfService (hservice : ¬(k.outOfService b = true → p = .port .cpP)) :
    startRefusal k b p = some .outOfService := by
  simp only [startRefusal, hunlocked, serviceBars_iff.2 hservice, Bool.false_eq_true, if_false, if_true]

variable (hservice : k.outOfService b = true → p = .port .cpP)
include hservice

/-- An operation in flight refuses (R46, order 4). -/
theorem startRefusal_inFlight (hop : (k.breaker b).op.isSome = true) : startRefusal k b p = some .busy := by
  simp only [startRefusal, hunlocked, serviceBars_iff, not_not_intro hservice, hop, Bool.false_eq_true,
    if_false, if_true]

variable (hop : (k.breaker b).op = none)
include hop

/-- The reservation refuses (R46, order 5). -/
theorem startRefusal_reserved (hreserved : reservedAgainst k b p = true) : startRefusal k b p = some .reserved := by
  simp only [startRefusal, hunlocked, serviceBars_iff, not_not_intro hservice, hop, hreserved, Option.isSome_none,
    Bool.false_eq_true, if_false, if_true]

variable (hfree : reservedAgainst k b p = false)
include hfree

/-- A breaker that stands in neither position refuses (R46, order 7). -/
theorem startRefusal_unsettled (hobs : (k.breaker b).observed = .travel ∨ (k.breaker b).observed = .invalid) :
    startRefusal k b p = some .busy := by
  rcases hobs with hobs | hobs <;>
    simp only [startRefusal, hunlocked, serviceBars_iff, not_not_intro hservice, hop, hfree, hobs,
      Option.isSome_none, Bool.false_eq_true, if_false]

/-- No check refuses a breaker that stands in a position (R46, orders 6 and 8). -/
theorem startRefusal_passes (hobs : (k.breaker b).observed = .closed ∨ (k.breaker b).observed = .opened) :
    startRefusal k b p = none := by
  rcases hobs with hobs | hobs <;>
    simp only [startRefusal, hunlocked, serviceBars_iff, not_not_intro hservice, hop, hfree, hobs,
      Option.isSome_none, Bool.false_eq_true, if_false]

end Unlocked

/-! ## The outcomes at BCU -/

variable (e : Sensed) (n : Option AttemptNo)

/-- A refused close changes nothing. -/
theorem Control.bcuClose_refused {why : Reason} (h : startRefusal k b p = some why) :
    k.bcuClose e b p n = (k, .refused why) := by
  simp only [Control.bcuClose, h]

/-- A close of a closed breaker sets the commanded state alone (R46, order 6). -/
theorem Control.bcuClose_closed (h : startRefusal k b p = none) (hobs : (k.breaker b).observed = .closed) :
    k.bcuClose e b p n = (k.modBreaker b fun r => { r with commanded := .closed }, .acknowledged) := by
  simp only [Control.bcuClose, h, hobs, if_true]

/-- A close of an open breaker starts (R46, order 8). -/
theorem Control.bcuClose_opened (h : startRefusal k b p = none) (hobs : (k.breaker b).observed = .opened) :
    k.bcuClose e b p n = (k.beginClose e b p n, .started) := by
  simp only [Control.bcuClose, h, hobs, reduceCtorEq, if_false]

end StartChecks

/-- Settles O26: each check by its own rule, and the started record by what the start of a CLOSE leaves. -/
theorem closeStartChecksInOrder : Obligations.CloseStartChecksInOrder := by
  intro e k b p n r out serviceAllows unlocked reserved free
  have hfree : ¬reserved → reservedAgainst k b p = false := fun h =>
    Bool.eq_false_iff.2 (mt reservedAgainst_iff.1 h)
  refine ⟨fun hlock => ?lockout, fun hlock hblock => ?closeBlocked, fun hu hs => ?outOfService,
    fun hu hs hop => ?inFlight, fun hu hs hop hres => ?reserved, fun ⟨hu, hs, hop, hres⟩ hobs => ?closed,
    fun ⟨hu, hs, hop, hres⟩ hobs => ?unsettled, fun ⟨hu, hs, hop, hres⟩ hobs => ?opened, rfl, rfl⟩
  case lockout => exact Control.bcuClose_refused e n (startRefusal_lockout hlock)
  case closeBlocked => exact Control.bcuClose_refused e n (startRefusal_closeBlocked hlock hblock)
  case outOfService => exact Control.bcuClose_refused e n (startRefusal_outOfService hu hs)
  case inFlight => exact Control.bcuClose_refused e n (startRefusal_inFlight hu hs hop)
  case reserved => exact Control.bcuClose_refused e n (startRefusal_reserved hu hs hop (reservedAgainst_iff.2 hres))
  case closed => exact Control.bcuClose_closed e n (startRefusal_passes hu hs hop (hfree hres) (.inl hobs)) hobs
  case unsettled => exact Control.bcuClose_refused e n (startRefusal_unsettled hu hs hop (hfree hres) hobs)
  case opened =>
    have hout : out = (k.beginClose e b p n, .started) :=
      Control.bcuClose_opened e n (startRefusal_passes hu hs hop (hfree hres) (.inr hobs)) hobs
    have hrec : out.1.breaker b = r.closeStarted (newOperation e k b .close p (demandCause k b p) n) := by
      rw [hout, Control.beginClose_breaker]
    rw [hrec]
    refine ⟨congrArg Prod.snd hout, rfl, rfl, rfl, congrArg some ?_⟩
    cases p <;> rfl

end Sys2Proof.Machine
end

section
/-! Transfer requests (R91, R92): what TSQ makes of an admitted TRANSFER or CANCEL_TRANSFER, and the answer of each. -/

namespace Sys2Proof.Machine

/-! ## An admitted request by what its owner makes of it -/

section Owner

variable (s : State) (p : Port) (cl : RequestClass) {owner : Control → Control × Response}

/-- An owner that refuses leaves the answer alone. -/
theorem State.request_ownerRefused {r : Reason} (hr : s.inReset = false) (hadm : s.admits p cl)
    (howner : owner (s.asked p) = (s.asked p, refusal r)) :
    s.request p cl owner = .next { s with control := (s.asked p).respond p (refusal r) } := by
  have hnotices : (owner (s.asked p)).1.notices = [] := by rw [howner]; exact s.asked_notices p
  rw [State.request_quiet s p cl owner hr hadm hnotices, howner]

/-- An owner that takes the request leaves its change, the answer and all that follows. -/
theorem State.request_ownerTook {k : Control} {answer : Response} (hr : s.inReset = false) (hadm : s.admits p cl)
    (howner : owner (s.asked p) = (k, answer)) :
    s.request p cl owner = .next (s.settled (k.respond p answer)) := by
  rw [State.request_settled s p cl owner hr hadm, howner]

end Owner

/-! ## TRANSFER (R91) -/

section Transfer

variable (e : Sensed) (k : Control) (l : Bus) (t : Target) (mode : Option Mode)

/-- The checks of R91 in the order of its table, each as "it fails" with its reason. -/
def transferChecks : List (Bool × Reason) :=
  let b := arrivingFor l t
  let supply := k.tiu.supply.get l
  let closed : Bool := mode = some .closedTransition
  [(!e.mlr.firstFresh, .notReady),
   ((k.xfer l).inProgress, .busy),
   (supply = .parallel || t.supply = supply || (t = .tie && k.tiu.supply.get (otherBus l) ≠ .utility), .inconsistent),
   (k.outOfService b, .outOfService),
   ((k.lockout b).flag, .lockout),
   ((k.breaker b).closeBlocked, .closeBlocked),
   (t = .gen && !someSlotUsable k, .inconsistent),
   (closed && supply = .dead, .inconsistent),
   (closed && !closedPermitted k l t, .parallelNotPermitted),
   (closed && !sourcesLive e k l t, .voltageIndeterminate)]

/-- The refusal of a TRANSFER is the reason of its first check that fails. -/
theorem transferRefusal_eq_firstFailing :
    transferRefusal e k l t mode = firstFailing (transferChecks e k l t mode) := rfl

/-- A TRANSFER that fails a check changes nothing at TSQ. -/
theorem Control.requestTransfer_refused {r : Reason} (h : transferRefusal e k l t mode = some r) :
    Control.requestTransfer e l t mode k = (k, refusal r) := by
  simp only [Control.requestTransfer, h]

/-- A TRANSFER that passes every check creates the transfer, with the mode of R88 for AUTO. -/
theorem Control.requestTransfer_accepted (h : transferRefusal e k l t mode = none) :
    Control.requestTransfer e l t mode k =
      (k.createTransfer e l .request (some t) (mode.getD (autoMode e k l t)), plain .accepted) := by
  simp only [Control.requestTransfer, h]

/-- A TRANSFER with every operand in range is judged by TSQ. -/
theorem exec_transfer_inRange {l t mode} (p : Port) {x target m : Byte} (s : State) (hbus : busOf x = some l)
    (htarget : targetOf target = some t) (hmode : modeOf m = some mode) :
    exec (.transfer p x target m) s = s.request p .operate (Control.requestTransfer s.sensed l t mode) := by
  change execTransfer p x target m s = _
  simp only [execTransfer, hbus, htarget, hmode]

end Transfer

/-! ## CANCEL_TRANSFER (R92) -/

section Cancel

variable (e : Sensed) {k : Control} {l : Bus}

/-- With no transfer in progress there is nothing to cancel. -/
theorem Control.cancelTransfer_idle (h : (k.xfer l).inProgress = false) :
    Control.cancelTransfer e l k = (k, refusal .inconsistent) := by
  simp only [Control.cancelTransfer, h, Bool.not_false, if_true]

/-- A transfer whose close has started is not cancelled. -/
theorem Control.cancelTransfer_closeStarted (h : (k.xfer l).inProgress = true)
    (hclose : (k.xfer l).closeStarted = true) :
    Control.cancelTransfer e l k = (k, refusal .busy) := by
  simp only [Control.cancelTransfer, h, hclose, Bool.not_true, Bool.false_eq_true, if_false, if_true]

/-- A transfer whose close has not started ends CANCELLED. -/
theorem Control.cancelTransfer_ends (h : (k.xfer l).inProgress = true) (hclose : (k.xfer l).closeStarted = false) :
    Control.cancelTransfer e l k = (k.endTransfer e l .cancelled, plain .done) := by
  simp only [Control.cancelTransfer, h, hclose, Bool.not_true, Bool.false_eq_true, if_false]

/-- A CANCEL_TRANSFER that names a bus is judged by TSQ. -/
theorem exec_cancelTransfer_inRange (p : Port) {x : Byte} (s : State) (hbus : busOf x = some l) :
    exec (.cancelTransfer p x) s = s.request p .operate (Control.cancelTransfer s.sensed l) := by
  change s.request p .operate (withBus x (Control.cancelTransfer s.sensed)) = _
  have howner : withBus x (Control.cancelTransfer s.sensed) = Control.cancelTransfer s.sensed l := by
    funext k; simp only [withBus, hbus]
  rw [howner]

end Cancel

/-- Settles O37: TRANSFER by the two verdicts of its checks, CANCEL_TRANSFER by the three states of the record. -/
theorem transferRequestsAreJudgedInOrder : Obligations.TransferRequestsAreJudgedInOrder := by
  intro p x target mode l s hr hadm hbus k supply answer
  have hcancel := exec_cancelTransfer_inRange p s hbus
  refine ⟨fun t m htarget hmode => ?transfer, fun hidle => ?idle,
    fun hrun => ⟨fun hclose => ?closeStarted, fun hclose => ?ends⟩⟩
  case transfer =>
    intro b closed utilities verdict
    have htransfer := exec_transfer_inRange p s hbus htarget hmode
    have hverdict : transferRefusal s.sensed k l t m = verdict := transferRefusal_eq_firstFailing s.sensed k l t m
    refine ⟨fun r hfail => ?refused, fun hpass => ?accepted⟩
    case refused =>
      exact htransfer.trans (s.request_ownerRefused p .operate hr hadm
        (Control.requestTransfer_refused s.sensed k l t m (hverdict.trans hfail)))
    case accepted =>
      exact htransfer.trans (s.request_ownerTook p .operate hr hadm
        (Control.requestTransfer_accepted s.sensed k l t m (hverdict.trans hpass)))
  case idle =>
    exact hcancel.trans (s.request_ownerRefused p .operate hr hadm (Control.cancelTransfer_idle s.sensed hidle))
  case closeStarted =>
    exact hcancel.trans (s.request_ownerRefused p .operate hr hadm
      (Control.cancelTransfer_closeStarted s.sensed hrun hclose))
  case ends =>
    exact hcancel.trans (s.request_ownerTook p .operate hr hadm (Control.cancelTransfer_ends s.sensed hrun hclose))

end Sys2Proof.Machine
end

section
/-! RESET_LOCKOUT (R155): the rows of its table in order, and what the clearing of a lockout changes and leaves. -/

namespace Sys2Proof.Machine

/-! ## The blocks as a request finds them -/

/-- A request's own arrival reloads a lapse timer (R168) and begins a step; it touches nothing outside CPI and TSQ. -/
theorem State.asked_eq (s : State) (p : Port) :
    s.asked p = { s.control with cpi := (s.asked p).cpi, tsq := (s.asked p).tsq, notices := [] } := by
  unfold State.asked Control.reloadLapse
  split <;> rfl

@[simp] theorem State.asked_bcu (s : State) (p : Port) : (s.asked p).bcu = s.control.bcu := by rw [State.asked_eq]

@[simp] theorem State.asked_gsc (s : State) (p : Port) : (s.asked p).gsc = s.control.gsc := by rw [State.asked_eq]

@[simp] theorem State.asked_ldm (s : State) (p : Port) : (s.asked p).ldm = s.control.ldm := by rw [State.asked_eq]

@[simp] theorem State.asked_erq (s : State) (p : Port) : (s.asked p).erq = s.control.erq := by rw [State.asked_eq]

@[simp] theorem State.asked_lockout (s : State) (p : Port) (b : Breaker) :
    (s.asked p).lockout b = s.control.lockout b := by
  rw [State.asked_eq]; rfl

@[simp] theorem State.asked_prot (s : State) (p : Port) (b : Breaker) : (s.asked p).prot b = s.control.prot b := by
  rw [State.asked_eq]; rfl

/-- An owner that changes its record and tells no one leaves that change and the answer, and nothing follows. -/
theorem State.request_ownerAnswered (s : State) (p : Port) (cl : RequestClass) {owner : Control → Control × Response}
    {k : Control} {answer : Response} (hr : s.inReset = false) (hadm : s.admits p cl)
    (howner : owner (s.asked p) = (k, answer)) (hquiet : k.notices = []) :
    s.request p cl owner = .next { s with control := k.respond p answer } := by
  rw [State.request_ownerTook s p cl hr hadm howner, State.settled_quiet _ _ (by rw [Control.respond_notices, hquiet])]

/-! ## The refusals of a breaker that is locked out -/

section Refusals

variable {e : Sensed} {k : Control} {b : Breaker}

/-- A breaker-failure timer or a backup watch that runs refuses first (R155, order 2). -/
theorem lockoutResetRefusal_busy (h : (k.prot b).failure.active = true ∨ (k.prot b).backupWatch = true) :
    lockoutResetRefusal e k b = some .busy :=
  if_pos (Bool.or_eq_true_iff.2 h)

variable (hrest : (k.prot b).failure.active = false ∧ (k.prot b).backupWatch = false)
include hrest

/-- No FRESH image yet since device reset (R155, order 3). -/
theorem lockoutResetRefusal_notReady (hfirst : e.mlr.firstFresh = false) :
    lockoutResetRefusal e k b = some .notReady := by
  simp [lockoutResetRefusal, hrest, hfirst]

variable (hfirst : e.mlr.firstFresh = true)
include hfirst

/-- The image is STALE (R155, order 4). -/
theorem lockoutResetRefusal_stale (hstale : e.mlr.fresh = false) : lockoutResetRefusal e k b = some .stale := by
  simp [lockoutResetRefusal, hrest, hfirst, hstale]

variable (hfresh : e.mlr.fresh = true)
include hfresh

/-- The current is at pickup or above (R155, order 5). -/
theorem lockoutResetRefusal_causePresent
    (hload : k.group.pickup.get b ≠ 0 ∧ k.group.pickup.get b ≤ e.mlr.image.curr.get b) :
    lockoutResetRefusal e k b = some .causePresent := by
  simp [lockoutResetRefusal, hrest, hfirst, hfresh, hload]

variable (hload : ¬(k.group.pickup.get b ≠ 0 ∧ k.group.pickup.get b ≤ e.mlr.image.curr.get b))
include hload

/-- Past the checks on the breaker and its current, the store alone decides (R155, orders 6 and 7). -/
theorem lockoutResetRefusal_store :
    lockoutResetRefusal e k b = if k.storeBusy then some .storeBusy else none := by
  have hpickup :
      (decide (k.group.pickup.get b ≠ 0) && decide (k.group.pickup.get b ≤ e.mlr.image.curr.get b)) = false := by
    simpa only [Bool.and_eq_false_iff, decide_eq_false_iff_not] using Decidable.not_and_iff_not_or_not.1 hload
  simp only [lockoutResetRefusal, hrest, hfirst, hfresh, hpickup, Bool.or_self, Bool.not_true, Bool.false_eq_true,
    if_false]

end Refusals

/-! ## The outcomes at PRU -/

section Outcomes

variable (e : Sensed) (p : Port) {k : Control} {b : Breaker}

/-- A breaker that is not locked out has nothing to reset (R155, order 1). -/
theorem Control.resetLockout_unlocked (hflag : (k.lockout b).flag = false) :
    Control.resetLockout e p b k = (k, plain .done) := by
  simp only [Control.resetLockout, hflag, Bool.not_false, if_true]

/-- A refused reset changes nothing at PRU. -/
theorem Control.resetLockout_refused (hflag : (k.lockout b).flag = true) {r : Reason}
    (h : lockoutResetRefusal e k b = some r) : Control.resetLockout e p b k = (k, refusal r) := by
  simp only [Control.resetLockout, hflag, h, Bool.not_true, Bool.false_eq_true, if_false]

/-- A reset that no row refuses clears the lockout (R155, order 7). -/
theorem Control.resetLockout_clears (hflag : (k.lockout b).flag = true) (h : lockoutResetRefusal e k b = none) :
    Control.resetLockout e p b k = (k.clearLockout e p b, plain .done) := by
  simp only [Control.resetLockout, hflag, h, Bool.not_true, Bool.false_eq_true, if_false]

/-- A RESET_LOCKOUT that names a breaker is judged by PRU. -/
theorem exec_resetLockout_inRange {x : Byte} (s : State) (hb : Breaker.ofIndex x.toNat = some b) :
    exec (.resetLockout p x) s = s.request p .operate (Control.resetLockout s.sensed p b) := by
  change s.request p .operate (withBreaker x (Control.resetLockout s.sensed p)) = _
  have howner : withBreaker x (Control.resetLockout s.sensed p) = Control.resetLockout s.sensed p b := by
    funext k; simp only [withBreaker, breakerOf, hb]
  rw [howner]

end Outcomes

/-! ## What the clearing of a lockout does -/

section Clearing

variable (e : Sensed) (p : Port) {k : Control} (b : Breaker)

/-- The lockouts written for one breaker hold that breaker's source value. -/
theorem copyLockouts_singleton_get (src dst : StoreData) :
    (copyLockouts src dst [b]).lockout.get b = src.lockout.get b :=
  PerBreaker.get_set_same ..

/-- With the store idle, a clearing writes PRU's record, the store and the event queue, and no other block. -/
theorem Control.clearLockout_eq (hidle : k.storeBusy = false) :
    k.clearLockout e p b = { k with
      pru := (k.modProt b fun r => { r with bucket := 0, instCount := 0, reverse := 0, operated := false }).pru
      sst := ((k.putLockout b ⟨false, .none⟩).startWrite e (.lockout [b])).sst
      erq := k.erq.append e.now .lockoutReset (.breaker b) (k.lockout b).cause p.index } :=
  congrArg (Control.record e · .lockoutReset (.breaker b) (k.lockout b).cause p.index)
    (if_neg (ne_true_of_eq_false hidle))

variable (hidle : k.storeBusy = false)
include hidle

theorem Control.clearLockout_lockout_same : (k.clearLockout e p b).lockout b = ⟨false, .none⟩ := by
  rw [Control.clearLockout_eq e p b hidle]
  exact k.lockout_putLockout_same b _

theorem Control.clearLockout_lockout_other {c : Breaker} (h : c ≠ b) :
    (k.clearLockout e p b).lockout c = k.lockout c := by
  rw [Control.clearLockout_eq e p b hidle]
  exact k.lockout_putLockout_other _ h

theorem Control.clearLockout_prot_same :
    (k.clearLockout e p b).prot b =
      { k.prot b with bucket := 0, instCount := 0, reverse := 0, operated := false } := by
  rw [Control.clearLockout_eq e p b hidle]
  exact k.prot_modProt_same b _

theorem Control.clearLockout_prot_other {c : Breaker} (h : c ≠ b) : (k.clearLockout e p b).prot c = k.prot c := by
  rw [Control.clearLockout_eq e p b hidle]
  exact k.prot_modProt_other _ h

/-- The write started holds the cleared lockout (R154, R176). -/
theorem Control.clearLockout_write :
    ∃ w, (k.clearLockout e p b).sst.write = some w ∧ w.kind = .lockout [b] ∧
      w.data.lockout.get b = ⟨false, .none⟩ := by
  rw [Control.clearLockout_eq e p b hidle]
  exact ⟨_, rfl, rfl, (copyLockouts_singleton_get b _ _).trans (k.lockout_putLockout_same b _)⟩

end Clearing

/-! ## The upstream-trip outputs (R159) -/

/-- An upstream-trip output reads the lockout of its own incomer alone. -/
theorem upstreamTrip_congr (inReset : Bool) {k k' : Control} {u : Utility}
    (h : k'.lockout (utilityIncomer u) = k.lockout (utilityIncomer u)) :
    upstreamTrip inReset k' u = upstreamTrip inReset k u := by
  simp only [upstreamTrip, h]

/-- An incomer that is not locked out has its output released. -/
theorem upstreamTrip_unlocked (inReset : Bool) {k : Control} {u : Utility}
    (h : (k.lockout (utilityIncomer u)).flag = false) : upstreamTrip inReset k u = false := by
  simp only [upstreamTrip, h, Bool.and_false, Bool.false_and]

/-- Settles O31, by the rows of R155: nothing to reset, the five refusals, and the clearing with its frame. -/
theorem resetLockoutByTheTable : Obligations.ResetLockoutByTheTable := by
  intro p x b s hr hadm hb k answer loaded quiet
  have hexec := exec_resetLockout_inRange p s hb
  have hrefuse {r : Reason} (hflag : (k.lockout b).flag = true) (h : lockoutResetRefusal s.sensed k b = some r) :
      exec (.resetLockout p x) s = .next (answer (.refused r)) :=
    hexec.trans (s.request_ownerRefused p .operate hr hadm (Control.resetLockout_refused s.sensed p hflag h))
  refine ⟨fun hflag => ?unlocked, fun hflag hbusy => hrefuse hflag (lockoutResetRefusal_busy hbusy),
    fun ⟨hflag, hrest⟩ hfirst => hrefuse hflag (lockoutResetRefusal_notReady hrest hfirst),
    fun ⟨hflag, hrest⟩ hfirst hstale => hrefuse hflag (lockoutResetRefusal_stale hrest hfirst hstale),
    fun ⟨hflag, hrest⟩ hfirst hfresh =>
      ⟨fun hload => hrefuse hflag (lockoutResetRefusal_causePresent hrest hfirst hfresh hload),
        fun hload hstore => ?storeBusy, fun hload hidle => ?cleared⟩⟩
  case unlocked =>
    exact hexec.trans (s.request_ownerAnswered p .operate hr hadm
      (Control.resetLockout_unlocked s.sensed p hflag) (s.asked_notices p))
  case storeBusy =>
    exact hrefuse hflag ((lockoutResetRefusal_store hrest hfirst hfresh hload).trans (if_pos hstore))
  case cleared =>
    have hpass : lockoutResetRefusal s.sensed k b = none :=
      (lockoutResetRefusal_store hrest hfirst hfresh hload).trans (if_neg (ne_true_of_eq_false hidle))
    have heq := Control.clearLockout_eq s.sensed p b hidle
    have hself : (k.clearLockout s.sensed p b).lockout b = ⟨false, .none⟩ :=
      Control.clearLockout_lockout_same s.sensed p b hidle
    have hother {c : Breaker} (hc : c ≠ b) : (k.clearLockout s.sensed p b).lockout c = s.control.lockout c :=
      (Control.clearLockout_lockout_other s.sensed p b hidle hc).trans (s.asked_lockout p c)
    have hquiet : (k.clearLockout s.sensed p b).notices = [] := by rw [heq]; exact s.asked_notices p
    refine ⟨_, hexec.trans (s.request_ownerAnswered p .operate hr hadm
        (Control.resetLockout_clears s.sensed p hflag hpass) hquiet), rfl, ?answer, hself,
      fun c hc => ⟨hother hc, ?others⟩, Control.clearLockout_prot_same s.sensed p b hidle, ?event,
      Control.clearLockout_write s.sensed p b hidle, fun u => ?upstream, ?bcu, ?gsc, ?ldm⟩
    case answer => exact congrArg PortRec.response (Control.port_modPort_same _ p _)
    case others => exact (Control.clearLockout_prot_other s.sensed p b hidle hc).trans (s.asked_prot p c)
    case event => rw [Control.respond_erq, heq, ← s.asked_erq p]; rfl
    case upstream =>
      split
      case isTrue hu =>
        refine upstreamTrip_unlocked _ ?_
        rw [hu]
        exact congrArg Lockout.flag hself
      case isFalse hu => exact upstreamTrip_congr _ (hother hu)
    case bcu => rw [Control.respond_bcu, heq]; exact s.asked_bcu p
    case gsc => rw [Control.respond_gsc, heq]; exact s.asked_gsc p
    case ldm => rw [Control.respond_ldm, heq]; exact s.asked_ldm p

end Sys2Proof.Machine
end

section
/-! Admission by class (R163): the refusal of each class by port, role and keys, and the authority holder. -/

namespace Sys2Proof.Machine

section Admission

variable {k : Control} {p : Port}

theorem isActive_iff : isActive k p = true ↔ p ≠ .cpP ∧ (k.port p).role = .active := by
  simp [isActive]

/-! ## OPERATE -/

/-- CP-P operates while the local key is asserted. -/
theorem admissionRefusal_operate_panel :
    admissionRefusal k .cpP .operate = if k.cpi.keys.localKey.level then none else some .authority := rfl

/-- A supervisor that is not ACTIVE operates nothing. -/
theorem admissionRefusal_operate_inactive (hp : p ≠ .cpP) (h : ¬isActive k p = true) :
    admissionRefusal k p .operate = some .authority := by
  simp [admissionRefusal, hp, h]

/-- The ACTIVE supervisor operates while the local key is released. -/
theorem admissionRefusal_operate_active (h : isActive k p = true) :
    admissionRefusal k p .operate = if k.cpi.keys.localKey.level then some .localControl else none := by
  simp [admissionRefusal, (isActive_iff.1 h).1, h]

/-! ## SETTING -/

/-- CP-P changes settings while the settings key is asserted. -/
theorem admissionRefusal_setting_panel :
    admissionRefusal k .cpP .setting = if k.cpi.keys.settingsKey.level then none else some .accessClass := rfl

/-- A supervisor that is not ACTIVE changes no settings. -/
theorem admissionRefusal_setting_inactive (hp : p ≠ .cpP) (h : ¬isActive k p = true) :
    admissionRefusal k p .setting = some .authority := by
  simp [admissionRefusal, hp, h]

/-- The ACTIVE supervisor changes settings while remote settings are permitted and the local key is released. -/
theorem admissionRefusal_setting_active (h : isActive k p = true) :
    admissionRefusal k p .setting =
      if k.common.remoteSettings then if k.cpi.keys.localKey.level then some .localControl else none
      else some .accessClass := by
  cases hremote : k.common.remoteSettings <;> simp [admissionRefusal, (isActive_iff.1 h).1, h, hremote]

/-! ## The authority holder -/

theorem activePort_eq : activePort k =
    if (k.port .cpA).role = .active then some .cpA else if (k.port .cpB).role = .active then some .cpB else none := rfl

/-- No port is ACTIVE just while neither supervisor is. -/
theorem activePort_eq_none_iff :
    activePort k = none ↔ (k.port .cpA).role ≠ .active ∧ (k.port .cpB).role ≠ .active := by
  rw [activePort_eq]
  by_cases hA : (k.port .cpA).role = .active <;> simp [hA]

/-- With at most one supervisor ACTIVE, the ACTIVE port is that one. -/
theorem activePort_eq_some_iff (hsound : k.RolesSound) : activePort k = some p ↔ isActive k p = true := by
  obtain ⟨hone, -, -⟩ := hsound
  rw [activePort_eq, isActive_iff]
  by_cases hA : (k.port .cpA).role = .active
  · have hB : (k.port .cpB).role ≠ .active := fun hB => hone ⟨hA, hB⟩
    cases p <;> simp [hA, hB]
  · cases p <;> simp [hA]

theorem authorityHolder_asserted (h : k.cpi.keys.localKey.level = true) : authorityHolder k = some .cpP := if_pos h

theorem authorityHolder_released (h : k.cpi.keys.localKey.level = false) : authorityHolder k = activePort k :=
  if_neg (ne_true_of_eq_false h)

/-- OPERATE requests are admitted from the authority holder and from no other port (R163). -/
theorem operate_admitted_iff_holder (hsound : k.RolesSound) :
    admissionRefusal k p .operate = none ↔ authorityHolder k = some p := by
  cases hkey : k.cpi.keys.localKey.level
  case false =>
    rw [authorityHolder_released hkey, activePort_eq_some_iff hsound]
    by_cases hactive : isActive k p = true
    · simp [admissionRefusal_operate_active hactive, hkey, hactive]
    · by_cases hp : p = .cpP
      · subst hp; simp [admissionRefusal_operate_panel, hkey, hactive]
      · simp [admissionRefusal_operate_inactive hp hactive, hactive]
  case true =>
    rw [authorityHolder_asserted hkey]
    by_cases hactive : isActive k p = true
    · simp [admissionRefusal_operate_active hactive, hkey, (isActive_iff.1 hactive).1.symm]
    · by_cases hp : p = .cpP
      · subst hp; simp [admissionRefusal_operate_panel, hkey]
      · simp [admissionRefusal_operate_inactive hp hactive, Ne.symm hp]

end Admission

/-- Settles O5, by the refusal of each class from CP-P, from an ACTIVE supervisor and from any other. -/
theorem requestsAreAdmittedByClass : Obligations.RequestsAreAdmittedByClass := by
  intro k p localKey settingsKey active
  have hinactive (h : ¬active) : ¬isActive k p = true := fun ha => h (isActive_iff.1 ha)
  refine ⟨rfl, fun hp => if_neg hp, fun hp => if_pos hp, fun hp => if_pos hp, fun hp => if_neg hp,
    fun hp hkey => ?operatePanel, fun hp hkey => ?operatePanelReleased,
    fun hp h => admissionRefusal_operate_inactive hp (hinactive h),
    fun ha hkey => (admissionRefusal_operate_active (isActive_iff.2 ha)).trans (if_pos hkey),
    fun ha hkey => (admissionRefusal_operate_active (isActive_iff.2 ha)).trans (if_neg (ne_true_of_eq_false hkey)),
    fun hp hkey => ?settingPanel, fun hp hkey => ?settingPanelReleased,
    fun hp h => admissionRefusal_setting_inactive hp (hinactive h),
    fun ha hremote hkey => ?barred, fun ha hremote hkey => .inl ?barredLocally,
    fun ha hremote hkey => ?localControl, fun ha hremote hkey => ?permitted,
    authorityHolder_asserted,
    fun hsound hkey ha =>
      (authorityHolder_released hkey).trans ((activePort_eq_some_iff hsound).2 (isActive_iff.2 ha)),
    fun hkey hA hB => (authorityHolder_released hkey).trans (activePort_eq_none_iff.2 ⟨hA, hB⟩),
    operate_admitted_iff_holder, rfl⟩
  case operatePanel => subst hp; exact if_pos hkey
  case operatePanelReleased => subst hp; exact if_neg (ne_true_of_eq_false hkey)
  case settingPanel => subst hp; exact if_pos hkey
  case settingPanelReleased => subst hp; exact if_neg (ne_true_of_eq_false hkey)
  all_goals rw [admissionRefusal_setting_active (isActive_iff.2 ha), hremote]
  case barred | barredLocally => rfl
  case localControl => exact if_pos hkey
  case permitted => exact if_neg (ne_true_of_eq_false hkey)

end Sys2Proof.Machine
end

section
/-! Supervisor roles (R166 to R168): what CPI makes of TAKEOVER, RELEASE and the liveness lapse. -/

namespace Sys2Proof.Machine

theorem exec_takeover (p : Port) (s : State) :
    exec (.takeover p) s = s.request p .role (Control.takeOver s.sensed p) := rfl

theorem exec_release (p : Port) (s : State) :
    exec (.release p) s = s.request p .role (Control.releaseRole s.sensed p) := rfl

/-- Every supervisor port is entitled to the role requests (R163). -/
theorem State.admits_role (s : State) {p : Port} (hp : p ≠ .cpP) : s.admits p .role := if_neg hp

section Roles

variable (e : Sensed) (p : Port) {k : Control}

/-- An ACTIVE port, the requester itself included, stands against a takeover (R166). -/
theorem Control.takeOver_refused (h : (k.port .cpA).role = .active ∨ (k.port .cpB).role = .active) :
    Control.takeOver e p k = (k, refusal .authority) := by
  obtain ⟨q, hq⟩ := Option.ne_none_iff_exists'.1 fun hnone : activePort k = none =>
    h.elim (activePort_eq_none_iff.1 hnone).1 (activePort_eq_none_iff.1 hnone).2
  simp only [Control.takeOver, hq]

/-- A vacant role is taken (R166). -/
theorem Control.takeOver_taken (hA : (k.port .cpA).role ≠ .active) (hB : (k.port .cpB).role ≠ .active) :
    Control.takeOver e p k =
      ((k.setRole p .active (.start e.now k.common.lapseTime)).record e .roleChange (.port p) .takeover 1,
        plain .done) := by
  simp only [Control.takeOver, activePort_eq_none_iff.2 ⟨hA, hB⟩]

/-- A STANDBY port has nothing to release (R167). -/
theorem Control.releaseRole_standby (h : (k.port p).role = .standby) :
    Control.releaseRole e p k = (k, plain .done) := by
  simp only [Control.releaseRole, h]

/-- An ACTIVE or LAPSED port becomes STANDBY (R167). -/
theorem Control.releaseRole_released (h : (k.port p).role ≠ .standby) :
    Control.releaseRole e p k =
      ((k.setRole p .standby .off).record e .roleChange (.port p) .release 0, plain .done) := by
  unfold Control.releaseRole
  split
  next hrole => exact absurd hrole h
  all_goals rfl

end Roles

/-- The lapse of an ACTIVE port whose lapse timer has run out (R168); CP-P has no role. -/
theorem exec_livenessLapse_due {p : Port} (s : State) (hr : s.inReset = false) (hactive : isActive s.blocks p = true)
    (hdue : (s.blocks.port p).lapse.due s.now = true) :
    exec (.livenessLapse p) s = .next { s with control := s.blocks.lapse s.sensed p } := by
  have hop : (if isActive s.blocks p && (s.blocks.port p).lapse.due s.sensed.now then s.blocks.lapse s.sensed p
      else s.blocks) = s.blocks.lapse s.sensed p := if_pos (Bool.and_eq_true_iff.2 ⟨hactive, hdue⟩)
  exact (s.act_quiet _ hr (congrArg Control.notices hop)).trans (by rw [hop])

/-- Settles O48, by the two outcomes of each request at CPI and the lapse of the ACTIVE port. -/
theorem rolesChangeByTheTables : Obligations.RolesChangeByTheTables := by
  intro p s hr hp k done
  have hadm : s.admits p .role := s.admits_role hp
  have hquiet : k.notices = [] := s.asked_notices p
  refine ⟨fun h => ?refused, fun hA hB => ?taken, fun h => ?standby, fun h => ?released, fun hrole hdue => ?lapsed⟩
  case refused => exact s.request_ownerRefused p .role hr hadm (Control.takeOver_refused s.sensed p h)
  case taken => exact s.request_ownerAnswered p .role hr hadm (Control.takeOver_taken s.sensed p hA hB) hquiet
  case standby => exact s.request_ownerAnswered p .role hr hadm (Control.releaseRole_standby s.sensed p h) hquiet
  case released => exact s.request_ownerAnswered p .role hr hadm (Control.releaseRole_released s.sensed p h) hquiet
  case lapsed => exact exec_livenessLapse_due s hr (isActive_iff.2 ⟨hp, hrole⟩) hdue

end Sys2Proof.Machine
end

section
/-! Reading the event queue (R171, R172): the records from a port's cursor onward, the cursor moved past them, and the
attention line. -/

namespace Sys2Proof.Machine

/-! ## The records from the cursor onward -/

/-- In a queue of consecutive numbers, a record's number says how far it stands from the end (R179). -/
theorem consecutive_seq {next : Word16} {l : List Event} (h : consecutive next l) {i : Nat} {x : Event}
    (hx : l[i]? = some x) : x.seq = next - BitVec.ofNat 16 (l.length - i) := by
  induction l generalizing i with
  | nil => simp at hx
  | cons y l ih =>
    obtain ⟨hy, hl⟩ := h
    cases i with
    | zero =>
      obtain rfl : y = x := by simpa using hx
      exact hy
    | succ i => simpa using ih hl (by simpa using hx)

section Reading

variable {k : Control} (hsound : k.erq.Sound) (p : Port) (n : Nat)

theorem eventsFrom_eq :
    eventsFrom k.erq p n = (k.erq.events.drop (k.erq.events.length - unread k p)).take n := rfl

theorem mem_events_of_mem_eventsFrom {x : Event} (h : x ∈ eventsFrom k.erq p n) : x ∈ k.erq.events :=
  List.mem_of_mem_drop (List.mem_of_mem_take h)

include hsound

/-- A cursor names a record held, or the number after the newest (R171). -/
theorem unread_le_length : unread k p ≤ k.erq.events.length := hsound.2.2 p

theorem eventsFrom_length : (eventsFrom k.erq p n).length = min n (unread k p) := by
  have hle := unread_le_length hsound p
  rw [eventsFrom_eq, List.length_take, List.length_drop]
  omega

/-- The records read carry the numbers from the cursor upward (R172). -/
theorem eventsFrom_seq {i : Nat} {x : Event} (hx : (eventsFrom k.erq p n)[i]? = some x) :
    x.seq = k.erq.cursors.get p + BitVec.ofNat 16 i := by
  have ⟨_, hconsecutive, _⟩ := hsound
  have hle := unread_le_length hsound p
  have hi : i < min n (unread k p) := by
    rw [← eventsFrom_length hsound]
    exact (List.getElem?_eq_some_iff.1 hx).1
  have hheld : k.erq.events[k.erq.events.length - unread k p + i]? = some x := by
    rwa [eventsFrom_eq, List.getElem?_take_of_lt (by omega), List.getElem?_drop] at hx
  have hback : k.erq.events.length - (k.erq.events.length - unread k p + i) = unread k p - i := by omega
  rw [consecutive_seq hconsecutive hheld, hback]
  unfold unread at hi ⊢
  bv_omega

end Reading

/-! ## The cursor -/

section Cursor

variable (k : Control) (p : Port)

theorem unread_setCursor (c : Word16) : unread (k.setCursor p c) p = (k.erq.nextSeq - c).toNat := by
  simp only [unread, Control.setCursor, PerPort.get_set_same]

/-- A cursor moved past every unread record leaves none unread. -/
theorem unread_setCursor_all :
    unread (k.setCursor p (k.erq.cursors.get p + BitVec.ofNat 16 (unread k p))) p = 0 := by
  rw [unread_setCursor, unread]
  bv_omega

end Cursor

/-- The attention line is released while nothing is unread (R171). -/
theorem attention_of_unread_eq_zero (inReset : Bool) {k : Control} {p : Port} (h : unread k p = 0) :
    attention inReset k p = false := by
  simp [attention, h]

/-! ## The requests at ERQ -/

section Requests

variable (p : Port) {k : Control} {n : Nat}

/-- A number outside 1 to 4 is refused (R172). -/
theorem Control.readEvents_outOfRange (h : n < 1 ∨ 4 < n) : Control.readEvents p n k = (k, refusal .range) :=
  if_pos (by simpa using h)

/-- A number from 1 to 4 reads the records and moves the cursor past them (R172). -/
theorem Control.readEvents_inRange (hsound : k.erq.Sound) (hlow : 1 ≤ n) (hhigh : n ≤ 4) :
    Control.readEvents p n k =
      (k.setCursor p (k.erq.cursors.get p + BitVec.ofNat 16 (min n (unread k p))),
        doneWith (u8 (min n (unread k p)) ++ (eventsFrom k.erq p n).flatMap Event.bytes)) := by
  have hrange : ¬(n < 1 ∨ 4 < n) := by omega
  rw [← eventsFrom_length hsound]
  exact if_neg (by simpa using hrange)

theorem exec_eventRead (number : Byte) (s : State) :
    exec (.eventRead p number) s = s.request p .read (Control.readEvents p number.toNat) := rfl

theorem exec_ackAttention (s : State) :
    exec (.ackAttention p) s = s.request p .operate (Control.acknowledgeEvents p) := rfl

end Requests

/-- Every port is entitled to the read requests (R163). -/
theorem State.admits_read (s : State) (p : Port) : s.admits p .read := rfl

/-- Settles O49, by the two outcomes of EVENT_READ at ERQ, the records it reads, and the cursor of ACK_ATTENTION. -/
theorem eventsAreReadFromTheCursor : Obligations.EventsAreReadFromTheCursor := by
  intro p number s hr hheld k q count
  have hsound : k.erq.Sound := (s.asked_erq p).symm ▸ hheld
  have hquiet : k.notices = [] := s.asked_notices p
  refine ⟨fun hrange => ?refused, fun hlow hhigh => ⟨eventsFrom q p number.toNat, ?read,
    eventsFrom_length hsound p number.toNat, fun _ => mem_events_of_mem_eventsFrom p number.toNat,
    fun hall => ?attention, fun _ _ => eventsFrom_seq hsound p number.toNat⟩,
    fun hadm => ⟨?acknowledged, ?released⟩⟩
  case refused =>
    rw [exec_eventRead]
    exact s.request_ownerRefused p .read hr (s.admits_read p) (Control.readEvents_outOfRange p hrange)
  case read =>
    rw [exec_eventRead]
    exact s.request_ownerAnswered p .read hr (s.admits_read p) (Control.readEvents_inRange p hsound hlow hhigh) hquiet
  case attention =>
    have hcount : count = unread k p := Nat.min_eq_right hall
    rw [hcount]
    exact attention_of_unread_eq_zero _ (unread_setCursor_all k p)
  case acknowledged =>
    rw [exec_ackAttention]
    exact s.request_ownerAnswered p .operate hr hadm rfl hquiet
  case released =>
    refine attention_of_unread_eq_zero _ ((unread_setCursor k p k.erq.nextSeq).trans ?_)
    rw [BitVec.sub_self]
    rfl

end Sys2Proof.Machine
end

section
/-! Group selection and group windows (R170, R177): the group a request names, the rows of GROUP_SELECT at SST, and
WINDOW at CPI. -/

namespace Sys2Proof.Machine

/-! ## The group named -/

/-- No setting group has a number above 3 (R170). -/
theorem GroupNo.ofIndex_outOfRange {n : Nat} (h : 3 < n) : GroupNo.ofIndex n = none := by
  obtain ⟨m, rfl⟩ := Nat.exists_eq_add_of_le' h
  rfl

section Named

variable (p : Port) {x : Byte} (s : State)

/-- A GROUP_SELECT that names no group is refused whatever the blocks hold (R177). -/
theorem exec_groupSelect_outOfRange (h : 3 < x.toNat) :
    exec (.groupSelect p x) s = s.request p .operate fun k => (k, refusal .range) := by
  change execGroupSelect p x s = _
  simp only [execGroupSelect, groupOf, GroupNo.ofIndex_outOfRange h]

/-- A WINDOW that names no group is refused whatever the blocks hold (R170). -/
theorem exec_window_outOfRange (h : 3 < x.toNat) :
    exec (.window p x) s = s.request p .setting fun k => (k, refusal .range) := by
  change execWindow p x s = _
  simp only [execWindow, groupOf, GroupNo.ofIndex_outOfRange h]

variable {g : GroupNo} (hg : GroupNo.ofIndex x.toNat = some g)
include hg

/-- A GROUP_SELECT that names a group is judged by SST. -/
theorem exec_groupSelect_inRange :
    exec (.groupSelect p x) s = s.request p .operate (Control.selectGroup s.sensed p g) := by
  change execGroupSelect p x s = _
  simp only [execGroupSelect, groupOf, hg]

/-- A WINDOW that names a group sets the port's window. -/
theorem exec_window_inRange :
    exec (.window p x) s = s.request p .setting fun k => (k.setWindow p g, plain .done) := by
  change execWindow p x s = _
  simp only [execWindow, groupOf, hg]

end Named

/-! ## The rows of GROUP_SELECT (R177) -/

section Rows

variable (e : Sensed) (p : Port) {k : Control} {g : GroupNo}

/-- The active group selected again is no change, even while a write is in flight (R177). -/
theorem Control.selectGroup_active (h : g = k.sst.working.active) :
    Control.selectGroup e p g k = (k, plain .done) :=
  if_pos h

/-- Another group is not taken while a write is in flight (R177). -/
theorem Control.selectGroup_busy (h : g ≠ k.sst.working.active) (hbusy : k.storeBusy = true) :
    Control.selectGroup e p g k = (k, refusal .storeBusy) :=
  (if_neg h).trans (if_pos hbusy)

/-- Another group is taken while the store is idle (R177). -/
theorem Control.selectGroup_changes (h : g ≠ k.sst.working.active) (hidle : k.storeBusy = false) :
    Control.selectGroup e p g k = (k.changeGroup e p g, plain .done) :=
  (if_neg h).trans (if_neg (ne_true_of_eq_false hidle))

/-- A group change writes the working active group, starts the write of that value alone, and records the event with the
group left as its cause; no other block is touched (R176, R177). -/
theorem Control.changeGroup_eq :
    k.changeGroup e p g = { k with
      sst := { k.sst with
        working := { k.sst.working with active := g }
        write := some { kind := .group p g, data := { k.sst.image with active := g }, start := e.now } }
      erq := k.erq.append e.now .groupChanged (.port p) (.oldGroup k.sst.working.active.index) g.index } := rfl

end Rows

/-- Settles O52, by the four rows of R177 and the two outcomes of WINDOW. -/
theorem groupsAndWindowsAreSelected : Obligations.GroupsAndWindowsAreSelected := by
  intro p x s hr k answer
  have hquiet : k.notices = [] := s.asked_notices p
  refine ⟨fun hadm => ⟨fun hrange => ?noGroup, fun g hg => ?select⟩,
    fun hadm => ⟨fun hrange => ?noWindow, fun g hg => ?window⟩⟩
  case noGroup =>
    exact (exec_groupSelect_outOfRange p s hrange).trans (s.request_ownerRefused p .operate hr hadm rfl)
  case select =>
    have hselect := exec_groupSelect_inRange p s hg
    refine ⟨fun hsame => ?active, fun hother hbusy => ?busy, fun hother hnone => ?changes⟩
    case active =>
      exact hselect.trans (s.request_ownerAnswered p .operate hr hadm
        (Control.selectGroup_active s.sensed p hsame) hquiet)
    case busy =>
      exact hselect.trans (s.request_ownerRefused p .operate hr hadm
        (Control.selectGroup_busy s.sensed p hother hbusy))
    case changes =>
      have hidle : k.storeBusy = false := congrArg Option.isSome hnone
      exact hselect.trans (s.request_ownerAnswered p .operate hr hadm
        ((Control.selectGroup_changes s.sensed p hother hidle).trans
          (congrArg (·, plain .done) (Control.changeGroup_eq s.sensed p))) hquiet)
  case noWindow =>
    exact (exec_window_outOfRange p s hrange).trans (s.request_ownerRefused p .setting hr hadm rfl)
  case window =>
    exact (exec_window_inRange p s hg).trans (s.request_ownerAnswered p .setting hr hadm rfl hquiet)

end Sys2Proof.Machine
end

section
/-! The promises about roles, coils, event queue and element accumulators: every operation of the blocks keeps each of them,
by the operations that write port contexts, breaker records, protection records and events (R45, R145 to R152, R166 to R168,
R171, R179). -/

namespace Sys2Proof.Machine

/-- The promises about records that the operations of the blocks write. -/
inductive Promise where
  | roles | coils | queue | elements

/-- Whether the blocks meet a promise. -/
def Control.Meets (k : Control) : Promise → Prop
  | .roles => k.RolesSound
  | .coils => k.CoilsSound
  | .queue => k.erq.Sound
  | .elements => k.ElementsBounded

/-! ## The records -/

/-- The coils of a breaker with no operation in flight are both released (R45). -/
theorem BreakerRec.coilsSound_of_none {r : BreakerRec} (hop : r.op = none) :
    r.CoilsSound ↔ r.closeCoil = false ∧ r.tripCoil = false := by
  simp only [BreakerRec.CoilsSound, hop]

/-- The close coil is the asserted one while a CLOSE is in flight (R45). -/
theorem BreakerRec.coilsSound_of_close {r : BreakerRec} {op : Operation} (hop : r.op = some op)
    (hk : op.kind = .close) :
    r.CoilsSound ↔ r.closeCoil = true ∧ r.tripCoil = false := by
  simp only [BreakerRec.CoilsSound, hop, hk]

/-- The trip coil is the asserted one while an OPEN or TRIP is in flight (R45). -/
theorem BreakerRec.coilsSound_of_opening {r : BreakerRec} {op : Operation} (hop : r.op = some op)
    (hk : op.kind ≠ .close) : r.CoilsSound ↔ r.closeCoil = false ∧ r.tripCoil = true := by
  cases h : op.kind
  · exact absurd h hk
  all_goals simp only [BreakerRec.CoilsSound, hop, h]

/-- The end of the operation in flight releases its coil, the only one asserted (R49, R50). -/
theorem BreakerRec.endOperation_coilsSound {r : BreakerRec} {op : Operation} (hop : r.op = some op) (h : r.CoilsSound) :
    (r.endOperation op).CoilsSound := by
  cases hk : op.kind
  · obtain ⟨-, htrip⟩ := (coilsSound_of_close hop hk).1 h
    simp [endOperation, hk, CoilsSound, htrip]
  all_goals
    obtain ⟨hclose, -⟩ := (coilsSound_of_opening hop (by simp [hk])).1 h
    simp [endOperation, hk, CoilsSound, hclose]

/-- Records that follow one another still do when the next one joins (R179). -/
theorem consecutive_append {next : Word16} {l : List Event} (h : consecutive next l) {x : Event} (hx : x.seq = next) :
    consecutive (next + 1) (l ++ [x]) := by
  induction l with
  | nil =>
    have hnext : next = next + 1 - 1 := by bv_omega
    exact ⟨hx.trans hnext, trivial⟩
  | cons y l ih =>
    obtain ⟨hy, hl⟩ := h
    refine ⟨?_, ih hl⟩
    change y.seq = next + 1 - BitVec.ofNat 16 ((l ++ [x]).length + 1)
    rw [hy, List.length_append, List.length_singleton]
    have hsucc : BitVec.ofNat 16 (l.length + 1 + 1) = BitVec.ofNat 16 (l.length + 1) + 1 := by
      apply BitVec.eq_of_toNat_eq; simp
    rw [hsucc]; bv_omega

/-- A cursor that is `d` behind the next number is `d + 1` behind the one after (R171). -/
theorem behind_succ {next c : Word16} {n : Nat} (h : (next - c).toNat ≤ n) :
    (next + 1 - c).toNat ≤ n + 1 := by
  rw [show next + 1 - c = (next - c) + 1 by bv_omega, BitVec.toNat_add]
  exact Nat.le_trans (Nat.mod_le ..) (Nat.add_le_add_right h 1)

/-- An event recorded leaves the queue sound: a full queue loses its oldest record, and the cursors that named it move
on (R179). -/
theorem Erq.append_sound {q : Erq} (h : q.Sound) (t : Word32) (kind : EventKind) (subject : Subject) (cause : Cause)
    (value : Int) : (q.append t kind subject cause value).Sound := by
  obtain ⟨hlen, hseq, hcur⟩ := h
  refine ⟨q.append_length t kind subject cause value hlen, ?_, fun p => ?_⟩
  all_goals
    have hp := fun p => hcur p
    unfold Erq.append
    dsimp only
    split
  · exact consecutive_append hseq rfl
  · split
    · exact consecutive_append (l := []) trivial rfl
    · next old rest heq =>
      rw [heq] at hseq
      exact consecutive_append hseq.2 rfl
  · rw [List.length_append, List.length_singleton]
    exact behind_succ (hcur p)
  · next hfull =>
    split
    · next heq => simp [heq] at hfull
    · next old rest heq =>
      rw [heq] at hseq hlen hfull
      simp only [List.length_cons, Nat.not_lt] at hlen hfull
      have hrest : rest.length = 127 := by omega
      have hold : old.seq = q.nextSeq - 128 := by rw [hseq.1, hrest]; rfl
      have hlag := hcur p
      simp only [heq, List.length_cons, hrest] at hlag
      simp only [PerPort.get_ofFn, List.length_append, List.length_singleton, hrest]
      split
      · rw [hold, show q.nextSeq + 1 - (q.nextSeq - 128 + 1) = 128 by bv_omega]; decide
      · next hne =>
        refine behind_succ ?_
        rw [hold] at hne
        have : (q.nextSeq - q.cursors.get p).toNat ≠ 128 := by
          intro h128
          apply hne
          have : q.nextSeq - q.cursors.get p = 128 := BitVec.eq_of_toNat_eq h128
          rw [← this]; bv_omega
        omega

/-- One step of the overcurrent element keeps the accumulators in bounds (R145 to R147). -/
theorem stepOvercurrent_bounded (set : ElementSettings) (current : Nat) {r : ProtectionRec} (h : r.Bounded) :
    (stepOvercurrent set current r).1.Bounded := by
  obtain ⟨hbucket, hinst, hrev, -⟩ := h
  unfold stepOvercurrent
  dsimp only
  split
  · exact ⟨Nat.zero_le _, hinst, hrev, Nat.zero_le _⟩
  · split
    · refine ⟨?_, hinst, hrev, Nat.min_le_left ..⟩
      change drainBucket r.bucket set.resetTime ≤ bucketFull
      unfold drainBucket
      split
      · exact Nat.zero_le _
      · exact Nat.le_trans (Nat.sub_le ..) hbucket
    · exact ⟨Nat.min_le_left .., hinst, hrev, Nat.min_le_left ..⟩

/-- One step of the instantaneous element keeps the accumulators in bounds (R151). -/
theorem stepInstantaneous_bounded (set : ElementSettings) {r : ProtectionRec} (h : r.Bounded) :
    (stepInstantaneous set r).1.Bounded := by
  obtain ⟨hbucket, -, hrev, hm⟩ := h
  unfold stepInstantaneous
  split
  · exact ⟨hbucket, Nat.zero_le _, hrev, hm⟩
  · exact ⟨hbucket, Nat.min_le_left .., hrev, hm⟩

/-- One step of the reverse-power element keeps the accumulators in bounds (R152). -/
theorem stepReverse_bounded (e : Sensed) (k : Control) (b : Breaker) (n : Slot) {r : ProtectionRec} (h : r.Bounded) :
    (stepReverse e k b n r).1.Bounded := by
  obtain ⟨hbucket, hinst, -, hm⟩ := h
  unfold stepReverse
  dsimp only
  split
  · exact ⟨hbucket, hinst, Nat.zero_le _, hm⟩
  · split
    · split
      · exact ⟨hbucket, hinst, Nat.zero_le _, hm⟩
      · exact ⟨hbucket, hinst, Nat.min_le_left .., hm⟩
    · exact ⟨hbucket, hinst, Nat.zero_le _, hm⟩

end Sys2Proof.Machine
end

section
/-! What the blocks' shared operations keep of the promises: SST, PRU, TIU, BCU and SYE. -/

namespace Sys2Proof.Machine.Control.Meets

variable {π : Promise} {e : Sensed} {k k' : Control}

/-! ## The named updates -/

/-- What leaves port contexts, breaker records, events and protection records alone keeps every promise. -/
theorem frame (h : k.Meets π)
    (hk : (k'.cpi.ports, k'.bcu, k'.erq, k'.pru.records) = (k.cpi.ports, k.bcu, k.erq, k.pru.records)) : k'.Meets π := by
  simp only [Prod.mk.injEq] at hk
  obtain ⟨hr, hb, hq, hp⟩ := hk
  cases π
  case roles => simp only [Meets, Control.RolesSound, Control.port, hr]; exact h
  case coils => intro b; rw [Control.breaker, hb]; exact h b
  case queue => change k'.erq.Sound; rw [hq]; exact h
  case elements => intro b; rw [Control.prot, hp]; exact h b

theorem ite {c : Prop} [Decidable c] (h : k.Meets π) (h' : k'.Meets π) : (if c then k else k').Meets π := by
  split <;> assumption

theorem forEach {α : Type} {l : List α} {f : α → Control → Control} (hf : ∀ a k, k.Meets π → (f a k).Meets π)
    (h : k.Meets π) : (forEach l f k).Meets π := by
  induction l generalizing k with
  | nil => exact h
  | cons a l ih => exact ih (hf a k h)

/-- The blocks an operation answers with, taken from its answer. -/
theorem of_eq {α : Type} {out : Control × α} {a : α} (h : out.1.Meets π) (heq : out = (k, a)) : k.Meets π := by
  rw [heq] at h; exact h

theorem tell {ns : List Notice} (h : k.Meets π) : (k.tell ns).Meets π := h.frame (by rfl)

theorem record {kind : EventKind} {subject : Subject} {cause : Cause} {value : Int} (h : k.Meets π) :
    (k.record e kind subject cause value).Meets π := by
  cases π
  case queue => exact Erq.append_sound h ..
  case roles => exact h
  case coils => exact h
  case elements => exact h

theorem recordNoCause {kind : EventKind} {subject : Subject} {value : Int} (h : k.Meets π) :
    (k.recordNoCause e kind subject value).Meets π := h.record

theorem recordSubject {kind : EventKind} {subject : Subject} (h : k.Meets π) :
    (k.recordSubject e kind subject).Meets π := h.record

theorem recordKind {kind : EventKind} (h : k.Meets π) : (k.recordKind e kind).Meets π := h.record

/-- A breaker record written keeps the promises if its coils stay sound. -/
theorem modBreaker {b : Breaker} {f : BreakerRec → BreakerRec} (h : k.Meets π)
    (hf : (k.breaker b).CoilsSound → (f (k.breaker b)).CoilsSound) : (k.modBreaker b f).Meets π := by
  cases π
  case coils =>
    intro c
    by_cases hc : c = b
    · subst hc; rw [breaker_modBreaker_same]; exact hf (h c)
    · rw [breaker_modBreaker_other k f hc]; exact h c
  case roles => exact h
  case queue => exact h
  case elements => exact h

/-- A protection record written keeps the promises if its accumulators stay in bounds. -/
theorem modProt {b : Breaker} {f : ProtectionRec → ProtectionRec} (h : k.Meets π)
    (hf : (k.prot b).Bounded → (f (k.prot b)).Bounded) : (k.modProt b f).Meets π := by
  cases π
  case roles => exact h
  case coils => exact h
  case queue => exact h
  case elements =>
    intro c
    by_cases hc : c = b
    · subst hc; rw [prot_modProt_same]; exact hf (h c)
    · rw [prot_modProt_other k f hc]; exact h c

/-! ## SST and PRU -/

theorem startWrite {kind : WriteKind} (h : k.Meets π) : (k.startWrite e kind).Meets π := h.frame (by rfl)

theorem handLockout {b : Breaker} (h : k.Meets π) : (k.handLockout e b).Meets π := by
  unfold Control.handLockout
  exact ite (h.frame (by rfl)) h.startWrite

theorem storeFaults {kind : WriteKind} (h : k.Meets π) : (k.storeFaults e kind).Meets π := by
  cases kind
  case lockout bs => exact h.forEach fun _ _ h => h.record
  all_goals exact h.record

theorem writePending (h : k.Meets π) : (k.writePending e).Meets π := by
  unfold Control.writePending
  split
  · exact h
  · exact h.frame (by rfl)

theorem completeWrite {w : Write} {verified : Bool} (h : k.Meets π) : (k.completeWrite e w verified).Meets π :=
  (ite (h.frame (by rfl)) (storeFaults (h.frame (by rfl)))).writePending

theorem changeLockout {b : Breaker} {c : Cause} (h : k.Meets π) : (k.changeLockout e b c).Meets π :=
  handLockout (record (h.frame (by rfl)))

theorem setLockout {b : Breaker} {c : Cause} (h : k.Meets π) : (k.setLockout e b c).Meets π :=
  ite h.changeLockout (ite h (ite h.changeLockout h))

theorem startFailure {b : Breaker} (h : k.Meets π) : (k.startFailure e b).Meets π := by
  unfold Control.startFailure
  exact ite h (h.modProt id)

theorem tripTaken {b : Breaker} {c : Cause} (h : k.Meets π) : (k.tripTaken e b c).Meets π := by
  unfold Control.tripTaken
  split
  · exact (ite h.setLockout h).startFailure
  · exact (ite h.setLockout h).startFailure
  · exact h.setLockout.startFailure
  · exact h.setLockout.startFailure
  · exact ite h.setLockout (h.setLockout.modProt id)
  · exact h

theorem watchEnded {b : Breaker} {fin : OpEnd} (h : k.Meets π) : (k.watchEnded e b fin).Meets π := by
  unfold Control.watchEnded
  split
  · exact h
  · split
    · exact (h.setLockout.modProt id).record
    · exact h.modProt id

/-! ## TIU: claims and recomputation -/

theorem releaseReservation {b : Breaker} {x : Holder} (h : k.Meets π) : (k.releaseReservation b x).Meets π := by
  unfold Control.releaseReservation
  exact ite (h.modBreaker id).tell h

theorem setClaim {c : ClaimBus} {v : Claim} (h : k.Meets π) : (k.setClaim c v).Meets π := h.frame (by rfl)

theorem tryGrant {c : ClaimBus} (h : k.Meets π) : (k.tryGrant e c).Meets π := by
  unfold Control.tryGrant
  split
  · exact ite h.setClaim.record.tell h
  · exact h

theorem claimOccasion {c : ClaimBus} (h : k.Meets π) : (k.claimOccasion e c).Meets π := by
  unfold Control.claimOccasion
  exact ite h.tell h.tryGrant

theorem claimOccasions (h : k.Meets π) : (k.claimOccasions e).Meets π := h.forEach fun _ _ h => h.claimOccasion

theorem claimLeft {c : ClaimBus} {b : Breaker} {p : Party} {cause : Cause} (h : k.Meets π) :
    (k.claimLeft e c b p cause).Meets π := by
  unfold Control.claimLeft
  dsimp only
  split
  · exact ite h.record.tell h.record.tell.releaseReservation
  · exact h.record.tell

theorem endHolder {c : ClaimBus} {cause : Cause} (h : k.Meets π) : (k.endHolder e c cause).Meets π := by
  unfold Control.endHolder
  split
  · exact h.setClaim.claimLeft.tryGrant
  · exact h

theorem endWaiting {c : ClaimBus} {b : Breaker} {cause : Cause} (h : k.Meets π) :
    (k.endWaiting e c b cause).Meets π := by
  unfold Control.endWaiting
  split
  · exact h.setClaim.claimLeft
  · exact h

theorem endClaims {b : Breaker} {p : Party} {cause : Cause} (h : k.Meets π) : (k.endClaims e b p cause).Meets π := by
  refine h.forEach fun c k h => ?_
  have h1 : (if waitsForClaim k c b p then k.endWaiting e c b cause else k).Meets π := ite h.endWaiting h
  exact ite h1.endHolder h1

theorem claimServed {b : Breaker} {cause : Cause} (h : k.Meets π) : (k.claimServed e b cause).Meets π := by
  refine h.forEach fun c k h => ?_
  split
  · exact ite h.endHolder h
  · exact h

theorem markStarted {b : Breaker} {p : Party} (h : k.Meets π) : (k.markStarted b p).Meets π := by
  refine h.forEach fun c k h => ?_
  split
  · exact ite h.setClaim h
  · exact h

theorem requestClaim {c : ClaimBus} {b : Breaker} {p : Party} (h : k.Meets π) :
    (k.requestClaim e c b p).1.Meets π := by
  have hreserved : (match p with
      | .port q => k.modBreaker b fun r => { r with holder := some (.port q none) }
      | _ => k).Meets π := by
    cases p
    case port => exact h.modBreaker id
    all_goals exact h
  unfold Control.requestClaim
  rw [apply_ite Prod.fst, apply_ite Prod.fst]
  exact ite h (ite h hreserved.setClaim.claimOccasion)

theorem busLive {c : ClaimBus} (h : k.Meets π) : (k.busLive e c).Meets π := by
  unfold Control.busLive
  have h1 := h.forEach (l := (k.claim c).waiting.map fun r => r.breaker) (f := fun b k => k.endWaiting e c b .busLive)
    fun _ _ h => h.endWaiting
  dsimp only
  split
  · exact ite h1 h1.endHolder
  · exact h1

theorem classOccasion (h : k.Meets π) : (k.classOccasion e).Meets π :=
  (h.forEach fun _ _ h => ite (busLive (h.frame (by rfl))) (h.frame (by rfl))).claimOccasions

theorem matchOverlaps {arrival : Option Breaker} (h : k.Meets π) : (k.matchOverlaps e arrival).Meets π :=
  h.frame (by rfl)

theorem setSupply {l : Bus} (h : k.Meets π) : (k.setSupply l).Meets π := by
  unfold Control.setSupply
  exact ite h (h.frame (by rfl))

theorem recompute {arrival : Option Breaker} (h : k.Meets π) : (k.recompute e arrival).Meets π := by
  unfold Control.recompute
  exact ite h.matchOverlaps.setSupply.setSupply.claimOccasions h

/-! ## BCU -/

theorem releaseServed {b : Breaker} {op : Operation} (h : k.Meets π) : (k.releaseServed b op).Meets π := by
  unfold Control.releaseServed
  split
  · exact h.releaseReservation
  · exact h

theorem reportEnd {b : Breaker} {op : Operation} {fin : OpEnd} (h : k.Meets π) : (k.reportEnd e b op fin).Meets π := by
  have h1 : (if op.kind = .close then (k.claimServed e b fin.claimCause).releaseServed b op else k).Meets π :=
    ite h.claimServed.releaseServed h
  exact (ite h1.recompute h1.recompute.watchEnded).tell

/-- An OPEN or TRIP starts on a breaker without operation, and asserts the trip coil alone (R47, R48). -/
theorem beginOpening {b : Breaker} {kind : OpKind} {p : Party} {c : Cause} (h : k.Meets π)
    (hop : (k.breaker b).op = none) (hk : kind ≠ .close) : (k.beginOpening e b kind p c).Meets π := by
  refine h.modBreaker fun hr => ?_
  rw [BreakerRec.coilsSound_of_none hop] at hr
  rw [BreakerRec.coilsSound_of_opening rfl hk]
  exact ⟨hr.1, rfl⟩

/-- A CLOSE starts on a breaker without operation, and asserts the close coil alone (R46). -/
theorem beginClose {b : Breaker} {p : Party} {n : Option AttemptNo} (h : k.Meets π) (hop : (k.breaker b).op = none) :
    (k.beginClose e b p n).Meets π := by
  have h1 := h.modBreaker (b := b) (f := fun r => { r with
      op := some (newOperation e k b .close p (demandCause k b p) n), commanded := .closed
      lastCause := demandCause k b p, closeCoil := true })
    fun hr => by
      rw [BreakerRec.coilsSound_of_none hop] at hr
      rw [BreakerRec.coilsSound_of_close rfl rfl]
      exact ⟨rfl, hr.2⟩
  have h2 := h1.markStarted (b := b) (p := p) |>.recompute (e := e)
    (arrival := if closedArrival k b p then some b else none)
  unfold Control.beginClose
  dsimp only
  split
  · exact ite h2.tell h2
  · exact h2

/-- A close that passes the start checks finds no operation in flight (R46, order 4). -/
theorem startRefusal_none_op {b : Breaker} {p : Party} (hpass : startRefusal k b p = none) :
    (k.breaker b).op = none := by
  unfold startRefusal at hpass
  dsimp only at hpass
  repeat' split at hpass
  all_goals simp_all

theorem bcuClose {b : Breaker} {p : Party} {n : Option AttemptNo} (h : k.Meets π) :
    (k.bcuClose e b p n).1.Meets π := by
  unfold Control.bcuClose
  split
  · exact h
  · next hpass =>
    split
    · exact h.modBreaker id
    · exact h.beginClose (startRefusal_none_op hpass)

/-- The cut of the CLOSE in flight releases the close coil before the trip coil is asserted (R53). -/
theorem cut {b : Breaker} {op : Operation} {kind : OpKind} {p : Party} {c : Cause} (h : k.Meets π)
    (hop : (k.breaker b).op = some op) (hclose : op.kind = .close) (hk : kind ≠ .close) :
    (k.cut e b op kind p c).Meets π := by
  have h0 := h.modBreaker (b := b) (f := fun r => { r with closeCoil := false, op := none })
    fun hr => ⟨rfl, ((BreakerRec.coilsSound_of_close hop hclose).1 hr).2⟩
  have h2 := (h0.beginOpening (e := e) (p := p) (c := c) (by rw [breaker_modBreaker_same]) hk).record (e := e)
    (kind := .operationCut) (subject := .breaker b) (cause := c) (value := op.age e.now)
  exact (ite h2.tripTaken h2).reportEnd

theorem acknowledge {b : Breaker} {settled : Bool} {c : Cause} (h : k.Meets π) :
    (k.acknowledge b settled c).Meets π := h.modBreaker id

theorem takeOpen {b : Breaker} {p : Party} (h : k.Meets π) : (k.takeOpen e b p).1.Meets π := by
  unfold Control.takeOpen
  dsimp only
  split
  · next hop =>
    split
    · exact h.acknowledge
    · exact h.beginOpening hop (by decide)
  · next op hop =>
    split
    · next hclose => exact h.cut hop hclose (by decide)
    · exact h.acknowledge

theorem bcuOpen {b : Breaker} {p : Party} (h : k.Meets π) : (k.bcuOpen e b p).1.Meets π := by
  unfold Control.bcuOpen
  split
  · exact h
  · dsimp only
    split
    · exact h.takeOpen.tell
    · exact h.takeOpen

/-- An OPEN relabelled TRIP keeps its coil (R54). -/
theorem relabel {b : Breaker} {op : Operation} {p : Party} {c : Cause} (h : k.Meets π)
    (hop : (k.breaker b).op = some op) (hk : op.kind = .opening) : (k.relabel b op p c).Meets π := by
  have h1 := h.modBreaker (b := b)
    (f := fun r => { r with op := some { op with kind := .trip, party := p, cause := c }, lastCause := c })
    fun hr => by
      rw [BreakerRec.coilsSound_of_opening hop (by simp [hk])] at hr
      exact hr
  unfold Control.relabel
  dsimp only
  split
  · exact h1.tell
  · exact h1

theorem bcuTrip {b : Breaker} {p : Party} {c : Cause} (h : k.Meets π) : (k.bcuTrip e b p c).Meets π := by
  unfold Control.bcuTrip
  split
  · next hop =>
    split
    · exact h.acknowledge.tripTaken
    · exact (h.beginOpening hop (by decide)).tripTaken
  · next op hop =>
    split
    · next hk => exact h.cut hop hk (by decide)
    · next hk => exact (h.relabel hop hk).tripTaken
    · exact h.acknowledge.tripTaken

theorem completeOperation {b : Breaker} {op : Operation} (h : k.Meets π) (hop : (k.breaker b).op = some op) :
    (k.completeOperation e b op).Meets π :=
  ((h.modBreaker fun hr => (BreakerRec.endOperation_coilsSound hop hr :)).record).reportEnd

theorem failOperation {b : Breaker} {op : Operation} (h : k.Meets π) (hop : (k.breaker b).op = some op) :
    (k.failOperation e b op).Meets π := by
  refine (record (h.modBreaker fun hr => ?_)).reportEnd
  have hend := BreakerRec.endOperation_coilsSound hop hr
  dsimp only
  split <;> exact hend

theorem uncommandedChange {b : Breaker} {new : Observed} (h : k.Meets π) :
    (k.uncommandedChange e b new).Meets π := by
  cases new <;> exact (h.modBreaker id).record

theorem tellObserved {b : Breaker} {new : Observed} {first : Bool} (h : k.Meets π) :
    (k.tellObserved e b new first).Meets π :=
  (ite (h.frame (by rfl)) h).tell.recompute

theorem judgeObserved {b : Breaker} {new : Observed} {first : Bool} (h : k.Meets π) :
    (k.judgeObserved e b new first).Meets π := by
  unfold Control.judgeObserved
  split
  · next op hop => exact ite (h.completeOperation hop) h
  · exact ite h.uncommandedChange (ite (h.modBreaker id).recordSubject (h.modBreaker id))

theorem settleContacts {b : Breaker} (h : k.Meets π) : (k.settleContacts e b).Meets π :=
  ite (h.modBreaker id) ((h.modBreaker id).modBreaker id).tellObserved.judgeObserved

/-! ## The elements -/

theorem protectionTrip {b : Breaker} {c : Cause} {value : Int} (h : k.Meets π) :
    (k.protectionTrip e b c value).Meets π := h.record.bcuTrip

theorem evaluateReverse {b : Breaker} {n : Slot} (h : k.Meets π) : (k.evaluateReverse e b n).Meets π := by
  have h1 := h.modProt (b := b) (f := fun _ => (stepReverse e k b n (k.prot b)).1) (stepReverse_bounded e k b n)
  exact ite h1.protectionTrip h1

theorem evaluateProtection {b : Breaker} (h : k.Meets π) : (k.evaluateProtection e b).Meets π := by
  have h1 := h.modProt (b := b)
    (f := fun _ => (stepInstantaneous (elementSettings k b)
      (stepOvercurrent (elementSettings k b) (e.mlr.image.curr.get b) (k.prot b)).1).1)
    fun hr => stepInstantaneous_bounded _ (stepOvercurrent_bounded _ _ hr)
  unfold Control.evaluateProtection
  dsimp only
  split
  · exact (ite (ite h1.protectionTrip h1).protectionTrip (ite h1.protectionTrip h1)).evaluateReverse
  · exact ite (ite h1.protectionTrip h1).protectionTrip (ite h1.protectionTrip h1)

theorem framePru (h : k.Meets π) : (k.framePru e).Meets π := by
  unfold Control.framePru
  exact ite (h.forEach fun _ _ h => h.evaluateProtection) h

theorem failureExpired {b : Breaker} (h : k.Meets π) : (k.failureExpired e b).Meets π := by
  have h0 := h.modProt (b := b) (f := fun r => { r with failure := .off }) id
  exact ite (h0.setLockout.forEach fun _ _ h => h.bcuTrip).record h0

/-! ## SYE -/

theorem setAttempt {n : AttemptNo} {a : Attempt} (h : k.Meets π) : (k.setAttempt n a).Meets π := h.frame (by rfl)

theorem endAttempt {n : AttemptNo} {result : Cause} {fin : Option OpEnd} {refusal : Option Reason} (h : k.Meets π) :
    (k.endAttempt e n result fin refusal).Meets π := by
  unfold Control.endAttempt
  split
  · exact h
  · dsimp only
    split
    · exact (record (tell (h.frame (by rfl)))).releaseReservation
    · exact record (tell (h.frame (by rfl)))

theorem placeAttempt {n : AttemptNo} {b : Breaker} {r : Requester} (h : k.Meets π) :
    (k.placeAttempt e n b r).Meets π := by
  unfold Control.placeAttempt
  dsimp only
  split
  · exact modBreaker (h.frame (by rfl)) id
  · exact h.frame (by rfl)

theorem createAttempt {b : Breaker} {r : Requester} (h : k.Meets π) : (k.createAttempt e b r).1.Meets π := by
  unfold Control.createAttempt
  split
  · exact h
  · split
    · exact h.placeAttempt
    · split
      · exact h
      · split
        · exact h.endAttempt.placeAttempt
        · exact h

theorem grantReservation {b : Breaker} {x : Holder} (h : k.Meets π) : (k.grantReservation b x).Meets π :=
  h.modBreaker id

theorem reserve {b : Breaker} {x : Holder} (h : k.Meets π) : (k.reserve e b x).1.Meets π := by
  unfold Control.reserve
  dsimp only
  split
  · exact h
  · split
    · exact h.grantReservation
    · split
      · exact h
      · split
        · split
          · exact h.endAttempt.grantReservation
          · exact h
        · split
          · exact h
          · exact h.endClaims.grantReservation
        · exact h

theorem sendClose {n : AttemptNo} {a : Attempt} (h : k.Meets π) : (k.sendClose e n a).Meets π := by
  unfold Control.sendClose
  split
  · exact h.endAttempt
  · have hout := h.bcuClose (e := e) (b := a.breaker) (p := a.requester.party) (n := some n)
    split <;> next heq =>
      have h1 := hout.of_eq heq
      first
        | exact h1.setAttempt.tell
        | exact h1.endAttempt
        | exact h1

theorem evaluate {n : AttemptNo} {a : Attempt} {x r : Channel} (h : k.Meets π) : (k.evaluate e n a x r).Meets π := by
  rw [Control.evaluate_eq]
  have hjudged : (k.judgedAt e n a x r).Meets π := h.setAttempt.tell
  exact ite hjudged.setAttempt.sendClose hjudged

theorem syncEdge {c : Channel} (h : k.Meets π) : (k.syncEdge e c).Meets π := by
  refine h.forEach fun n k h => ?_
  split
  · exact ite h.evaluate h
  · exact h

theorem syncReport {r : OpReport} (h : k.Meets π) : (k.syncReport e r).Meets π := by
  unfold Control.syncReport
  split
  · split
    · split <;> exact h.endAttempt
    · exact h
  · exact h

/-! ## The close classification -/

theorem deadBusClose {b : Breaker} {p : Party} {dead : Channel} (h : k.Meets π) :
    (k.deadBusClose e b p dead).1.Meets π := by
  unfold Control.deadBusClose
  split
  · exact h
  · split
    · split
      · exact h.bcuClose
      · exact h.requestClaim
    · exact h

theorem classifySides {b : Breaker} {p : Party} {x r : Channel} (h : k.Meets π) :
    (k.classifySides e b p x r).1.Meets π := by
  unfold Control.classifySides
  split
  · exact h
  · split
    · exact h
    · split
      · exact h
      · exact h
      · exact h.deadBusClose
      · exact h.deadBusClose
      · split
        · exact h.bcuClose
        · exact h
      · split
        · split
          · exact h.createAttempt
          · exact h
        · exact h

theorem classifyClose {b : Breaker} {p : Party} (h : k.Meets π) : (k.classifyClose e b p).1.Meets π := by
  unfold Control.classifyClose
  split
  · exact h
  · split
    · exact h.bcuClose
    · split
      · exact h
      · split
        · exact h.bcuClose
        · split
          · split
            · exact h
            · split
              · exact h
              · exact h.bcuClose
          · exact h.classifySides

theorem closeDemand {b : Breaker} {p : Party} (h : k.Meets π) : (k.closeDemand e b p).1.Meets π := by
  have hout := h.classifyClose (e := e) (b := b) (p := p)
  unfold Control.closeDemand
  split
  · next heq =>
    have h1 := hout.of_eq heq
    split
    · exact h1
    · split
      · exact h1.endHolder
      · exact h1
  · exact hout

end Sys2Proof.Machine.Control.Meets
end

section
/-! What SMN, LDM, GSC and TSQ keep of the promises, and what all that follows from a command keeps. -/

namespace Sys2Proof.Machine.Control.Meets

variable {π : Promise} {e : Sensed} {k k' : Control}

/-! ## Blocks without breaker records, events and accumulators -/

theorem withTsq {t : Tsq} (h : k.Meets π) : ({ k with tsq := t } : Control).Meets π := h.frame (by rfl)

theorem withLdm {l : Ldm} (h : k.Meets π) : ({ k with ldm := l } : Control).Meets π := h.frame (by rfl)

/-! ## SMN -/

theorem setHealth {u : Utility} {x : Health} {t : Timer} {c : Cause} (h : k.Meets π) :
    (k.setHealth e u x t c).Meets π := (record (h.frame (by rfl))).tell

theorem noteReason {u : Utility} {f : Option Cause} (h : k.Meets π) : (k.noteReason u f).Meets π := by
  cases f
  · exact h
  · exact h.frame (by rfl)

theorem evaluateHealth {u : Utility} (h : k.Meets π) : (k.evaluateHealth e u).Meets π := by
  unfold Control.evaluateHealth
  dsimp only
  split
  · exact h.noteReason.setHealth
  · exact h.noteReason

theorem healthNoSignal {u : Utility} (h : k.Meets π) : (k.healthNoSignal e u).Meets π :=
  ite h.noteReason h.noteReason.setHealth

theorem setAvailable {new : Bool} {c : Cause} (h : k.Meets π) : (k.setAvailable e new c).Meets π := by
  unfold Control.setAvailable
  exact ite h (record (h.frame (by rfl))).tell

theorem deriveAvailable {c : Cause} (h : k.Meets π) : (k.deriveAvailable e c).Meets π := h.setAvailable

theorem capacitySmn (h : k.Meets π) : (k.capacitySmn e).Meets π := by
  unfold Control.capacitySmn
  exact ite h.deriveAvailable (ite h.setAvailable h)

theorem frameSmn (h : k.Meets π) : (k.frameSmn e).Meets π := by
  unfold Control.frameSmn
  exact ite h.evaluateHealth.evaluateHealth.deriveAvailable h

theorem channelSmn {c : Channel} (h : k.Meets π) : (k.channelSmn e c).Meets π := by
  unfold Control.channelSmn
  dsimp only
  split
  · exact ite h.healthNoSignal (ite h.evaluateHealth h)
  · exact ite (ite h.setAvailable (ite h.deriveAvailable h)) h

theorem stalenessSmn (h : k.Meets π) : (k.stalenessSmn e).Meets π := h.frame (by rfl)

/-! ## LDM -/

theorem modBlock {f : Block} {g : BlockRec → BlockRec} (h : k.Meets π) : (k.modBlock f g).Meets π := h.frame (by rfl)

theorem setBlock {f : Block} {x : BlockState} (h : k.Meets π) : (k.setBlock f x).Meets π := h.frame (by rfl)

theorem preShedOpenEnded {f : Block} (h : k.Meets π) : (k.preShedOpenEnded f).Meets π := by
  unfold Control.preShedOpenEnded
  dsimp only
  split
  · split
    · exact ite (ite (frame h (by rfl)) (frame h (by rfl))) (frame h (by rfl))
    · exact ite (ite (frame h (by rfl)) (frame h (by rfl))) (frame h (by rfl))
  · exact ite (ite (frame h (by rfl)) (frame h (by rfl))) h

theorem shed {f : Block} {c : Cause} (h : k.Meets π) : (k.shed e f c).1.Meets π := h.bcuOpen.modBlock.setBlock.record

theorem shedOne {c : Cause} (h : k.Meets π) : (k.shedOne e c).Meets π := by
  unfold Control.shedOne
  split
  · exact h.shed
  · exact h

theorem shedToCapacity {n : Nat} (h : k.Meets π) : (k.shedToCapacity e n).Meets π := by
  induction n generalizing k with
  | zero => exact h
  | succ n ih => exact ite (ih h.shedOne) h

theorem capacityLoss (h : k.Meets π) : (k.capacityLoss e).Meets π := by
  unfold Control.capacityLoss
  exact ite h.shedToCapacity h

theorem preShedOne {l : Bus} {f : Block} (h : k.Meets π) : (k.preShedOne e l f).Meets π := by
  have hshed := h.shed (e := e) (f := f) (c := .preShed)
  exact ite (hshed.frame (by rfl)) hshed

theorem preShed {l : Bus} (h : k.Meets π) : (k.preShed e l).1.Meets π := by
  have h0 : ({ k with ldm := { k.ldm with preShedOpens := k.ldm.preShedOpens.set l [] } } : Control).Meets π :=
    h.frame (by rfl)
  have h1 := fun out => h0.forEach (l := out) (f := fun f k => k.preShedOne e l f) fun _ _ h => h.preShedOne
  exact ite (h1 _).tell (h1 _)

theorem setOverload {t : Timer} (h : k.Meets π) : (k.setOverload t).Meets π := h.frame (by rfl)

theorem judgeOverload (h : k.Meets π) : (k.judgeOverload e).Meets π := by
  unfold Control.judgeOverload
  exact ite h (ite (ite h h.setOverload) h.setOverload)

theorem setUf {st : UfStage} {t : Timer} (h : k.Meets π) : (k.setUf st t).Meets π := h.frame (by rfl)

theorem judgeUf {st : UfStage} (h : k.Meets π) : (k.judgeUf e st).Meets π := by
  unfold Control.judgeUf
  exact ite (ite h h.setUf) h.setUf

theorem judgeUfStages (h : k.Meets π) : (k.judgeUfStages e).Meets π := h.judgeUf.judgeUf

theorem stopGenTimers (h : k.Meets π) : (k.stopGenTimers).Meets π :=
  ite (ite h.setOverload h) (ite h.setOverload h).setUf.setUf

theorem beginRestore {f : Block} {x : Bool} (h : k.Meets π) : (k.beginRestore e f x).Meets π :=
  ite h.modBlock.setBlock (h.frame (by rfl))

theorem restored {f : Block} (h : k.Meets π) : (k.restored e f).Meets π :=
  h.setBlock.record.releaseReservation.tell

theorem tryRestore {f : Block} {x : Bool} (h : k.Meets π) : (k.tryRestore e f x).Meets π := by
  have hres := h.reserve (e := e) (b := blockBreaker f) (x := .load)
  unfold Control.tryRestore
  dsimp only
  split
  · next heq => exact hres.of_eq heq
  · next k1 heq =>
    have hclose := (hres.of_eq heq).closeDemand (e := e) (b := blockBreaker f) (p := .load)
    split
    · next heq => exact (hclose.of_eq heq).beginRestore
    · next heq => exact (hclose.of_eq heq).modBlock.restored
    · next heq => exact (hclose.of_eq heq).releaseReservation

theorem seekRestore (h : k.Meets π) : (k.seekRestore e).Meets π := by
  unfold Control.seekRestore
  split
  · exact h
  · split
    · exact h.tryRestore
    · exact h

theorem restoreFailed {f : Block} (h : k.Meets π) : (k.restoreFailed e f).Meets π :=
  h.setBlock.record.releaseReservation.tell

theorem feederObserved {f : Block} {new : Observed} {op : Option Operation} (h : k.Meets π) :
    (k.feederObserved f new op).Meets π := by
  unfold Control.feederObserved
  split
  · exact h
  · split
    · exact ite h (ite h.setBlock h.setBlock.preShedOpenEnded)
    · exact ite h.setBlock h
    · exact h
    · exact ite h h.setBlock
    all_goals exact ite h.setBlock h

theorem feederOpEnded {f : Block} {r : OpReport} (h : k.Meets π) : (k.feederOpEnded e f r).Meets π := by
  have h1 : (if r.op.kind = .close then k else k.preShedOpenEnded f).Meets π := ite h h.preShedOpenEnded
  unfold Control.feederOpEnded
  dsimp only
  split
  · exact ite h1.setBlock h1
  · exact ite h1.setBlock h1
  · exact ite h1.restored h1
  · exact ite h1.restoreFailed h1
  · exact h1

theorem feederOperatorOpen {f : Block} (h : k.Meets π) : (k.feederOperatorOpen e f).Meets π := by
  unfold Control.feederOperatorOpen
  exact ite h.restoreFailed h

theorem feederService {f : Block} (h : k.Meets π) : (k.feederService f).Meets π := by
  unfold Control.feederService
  exact ite h.setBlock.preShedOpenEnded h

theorem feederPortClose {f : Block} (h : k.Meets π) : (k.feederPortClose f).Meets π := by
  unfold Control.feederPortClose
  exact ite h.setBlock h

theorem frameLdm (h : k.Meets π) : (k.frameLdm e).Meets π := by
  unfold Control.frameLdm
  exact ite h.judgeOverload.seekRestore h

theorem stalenessLdm (h : k.Meets π) : (k.stalenessLdm e).Meets π := h.setOverload

theorem supplyLdm (h : k.Meets π) : (k.supplyLdm e).Meets π := seekRestore (frame h.stopGenTimers (by rfl))

theorem capacityLdm (h : k.Meets π) : (k.capacityLdm e).Meets π := h.stopGenTimers.seekRestore

/-! ## GSC -/

theorem modSlot {n : Slot} {f : SlotRec → SlotRec} (h : k.Meets π) : (k.modSlot n f).Meets π := h.frame (by rfl)

theorem setSlotState {n : Slot} {x : SlotState} {c : Cause} (h : k.Meets π) :
    (k.setSlotState e n x c).Meets π := by
  have h0 : (if decide (x = .online) = true then k.releaseReservation (slotBreaker n) (.gen n) else k).Meets π :=
    ite h.releaseReservation h
  have h2 := fun f => (h0.modSlot (n := n) (f := f)).record (e := e) (kind := .slotState) (subject := .slot n) (cause :=
    c)
    (value := x.number) |>.tell (ns := [.slotChanged, .planEvaluation])
  exact ite (h2 _) (ite (h2 _).capacitySmn.capacityLoss (h2 _).capacitySmn).tell

theorem endActivity {n : Slot} (h : k.Meets π) : (k.endActivity e n).Meets π := by
  unfold Control.endActivity
  dsimp only
  split
  · exact h.endAttempt.endClaims.releaseReservation
  · exact h.endClaims.releaseReservation

theorem failSlot {n : Slot} {c : Cause} (h : k.Meets π) : (k.failSlot e n c).Meets π := h.endActivity.setSlotState

theorem restSlot {n : Slot} {c : Cause} (h : k.Meets π) : (k.restSlot e n c).Meets π := h.endActivity.setSlotState

theorem demandSlotOpen {n : Slot} (h : k.Meets π) : (k.demandSlotOpen e n).Meets π := h.bcuOpen.modSlot

theorem actDeferred {n : Slot} (h : k.Meets π) : (k.actDeferred e n).Meets π := by
  unfold Control.actDeferred
  exact ite h (ite h.modSlot h.modSlot.modSlot.setSlotState)

theorem slotCompleted {n : Slot} (h : k.Meets π) : (k.slotCompleted e n).Meets π := h.setSlotState.actDeferred

theorem readyLost {n : Slot} (h : k.Meets π) : (k.readyLost e n).Meets π := by
  unfold Control.readyLost
  split
  · exact h.failSlot
  · split
    · dsimp only
      split
      · exact h.endAttempt.endClaims.bcuOpen.failSlot
      · exact h.endClaims.bcuOpen.failSlot
    · exact h.failSlot
  · split
    · dsimp only
      split
      · exact h.endAttempt.endClaims.bcuOpen.failSlot
      · exact h.endClaims.bcuOpen.failSlot
    · exact h.failSlot
  · exact h.bcuOpen.failSlot
  · exact (ite h h.bcuOpen).failSlot
  · exact h

theorem adopt {n : Slot} (h : k.Meets π) : (k.adopt e n).Meets π := by
  have h3 := (h.endActivity (e := e) (n := n)).modSlot (n := n) (f := fun r => { r with demand := .port, barred :=
    false })
    |>.setSlotState (e := e) (n := n) (x := .online) (c := .adopted)
  exact ite h3 h3.readyLost

theorem slotAttempt {n : Slot} {m : AttemptNo} (h : k.Meets π) : (k.slotAttempt n m).Meets π := h.modSlot

theorem slotSyncDemand {n : Slot} (h : k.Meets π) : (k.slotSyncDemand e n).Meets π := by
  have hclose := h.closeDemand (e := e) (b := slotBreaker n) (p := .gen n)
  unfold Control.slotSyncDemand
  split
  · next heq => exact (hclose.of_eq heq).slotAttempt
  · next heq => exact ite (hclose.of_eq heq) (hclose.of_eq heq).failSlot
  · next heq => exact (hclose.of_eq heq).setSlotState
  · next heq => exact (hclose.of_eq heq).slotCompleted
  · next heq => exact hclose.of_eq heq

theorem leaveClosing {n : Slot} (h : k.Meets π) : (k.leaveClosing e n).Meets π := h.endClaims.releaseReservation

theorem reserveSync {n : Slot} (h : k.Meets π) : (k.reserveSync e n).Meets π := h.reserve

theorem enterSync {n : Slot} (h : k.Meets π) : (k.enterSync e n).Meets π := h.setSlotState.slotSyncDemand

theorem slotClaimedDemand {n : Slot} (h : k.Meets π) : (k.slotClaimedDemand e n).Meets π := by
  have hclose := h.closeDemand (e := e) (b := slotBreaker n) (p := .gen n)
  unfold Control.slotClaimedDemand
  split
  · exact h
  · split
    · next heq => exact (hclose.of_eq heq).leaveClosing.reserveSync.setSlotState.slotAttempt
    · next heq => exact (hclose.of_eq heq).slotCompleted
    · next heq => exact hclose.of_eq heq

theorem judgeBus {n : Slot} (h : k.Meets π) : (k.judgeBus e n).Meets π := by
  have hclose := h.closeDemand (e := e) (b := slotBreaker n) (p := .gen n)
  unfold Control.judgeBus
  dsimp only
  split
  · exact h
  · split
    · exact h.enterSync
    · exact h
    · split
      · split
        · next heq => exact ite (hclose.of_eq heq) (hclose.of_eq heq).failSlot
        · next heq => exact (hclose.of_eq heq).slotCompleted
        · next heq => exact hclose.of_eq heq
      · exact h

theorem awaitReserve {n : Slot} (h : k.Meets π) : (k.awaitReserve e n).Meets π := by
  have hres := h.reserve (e := e) (b := slotBreaker n) (x := .gen n)
  unfold Control.awaitReserve
  split
  · exact h
  · split
    · next heq => exact (hres.of_eq heq).judgeBus
    · next heq => exact hres.of_eq heq

theorem enterAwaiting {n : Slot} {c : Cause} (h : k.Meets π) : (k.enterAwaiting e n c).Meets π :=
  h.setSlotState.awaitReserve.judgeBus

theorem judgeStarting {n : Slot} (h : k.Meets π) : (k.judgeStarting e n).Meets π := by
  unfold Control.judgeStarting
  exact ite h.enterAwaiting h

theorem judgeSync {n : Slot} (h : k.Meets π) : (k.judgeSync e n).Meets π := by
  unfold Control.judgeSync
  split
  · exact h
  · split
    · dsimp only
      split
      · exact h.endAttempt.enterAwaiting
      · exact h.enterAwaiting
    · exact ite h.slotSyncDemand h

theorem judgeUnload {n : Slot} (h : k.Meets π) : (k.judgeUnload e n).Meets π := by
  unfold Control.judgeUnload
  exact ite h.demandSlotOpen h

theorem judgeClosing {n : Slot} (h : k.Meets π) : (k.judgeClosing e n).Meets π := by
  unfold Control.judgeClosing
  exact ite h.slotClaimedDemand h

theorem frameSlot {n : Slot} (h : k.Meets π) : (k.frameSlot e n).Meets π := by
  unfold Control.frameSlot
  split
  · exact h.judgeStarting
  · exact h.judgeBus
  · exact h.judgeClosing
  · exact h.judgeSync
  · exact h.judgeUnload
  · exact h

theorem planStart {n : Nat} (h : k.Meets π) : (k.planStart e n).Meets π := by
  induction n generalizing k with
  | zero => exact h
  | succ n ih =>
    unfold Control.planStart
    split
    · split
      · exact ih h.modSlot.setSlotState
      · exact h
    · exact h

theorem releaseSlot {n : Slot} (h : k.Meets π) : (k.releaseSlot e n).Meets π := by
  unfold Control.releaseSlot
  refine modSlot ?_
  split
  · exact h
  · split
    · exact h.restSlot
    · exact h.restSlot
    · exact ite h.modSlot h.restSlot
    · exact h.modSlot
    · exact h.setSlotState
    · exact h

theorem evaluatePlan (h : k.Meets π) : (k.evaluatePlan e).Meets π := by
  unfold Control.evaluatePlan
  exact ite (h.forEach fun _ _ h => h.releaseSlot) h.planStart

theorem judgeAvailable {n : Slot} {c : Cause} (h : k.Meets π) : (k.judgeAvailable e n c).Meets π := by
  unfold Control.judgeAvailable
  dsimp only
  split
  · exact ite h.setSlotState h
  · exact ite h h.setSlotState
  · exact ite h h.restSlot
  · exact ite h h.restSlot
  · exact ite h (ite h.modSlot (ite h.restSlot h))
  · exact ite h (ite h.modSlot (ite h.restSlot h))
  · exact h

theorem enterCooldown {n : Slot} (h : k.Meets π) : (k.enterCooldown e n).Meets π :=
  ite h.setSlotState.setSlotState h.setSlotState

theorem slotObserved {n : Slot} {new : Observed} {op : Option Operation} {first : Bool} (h : k.Meets π) :
    (k.slotObserved e n new op first).Meets π := by
  unfold Control.slotObserved
  split
  · exact h
  · exact ite h h.failSlot
  · exact ite h.failSlot (ite h.enterCooldown h)
  · exact ite h.adopt h

theorem slotOpEnded {n : Slot} {r : OpReport} (h : k.Meets π) : (k.slotOpEnded e n r).Meets π := by
  unfold Control.slotOpEnded
  dsimp only
  split
  · split
    · exact h.slotCompleted
    all_goals exact h.failSlot
  · split
    · split
      · exact h.failSlot
      · exact ite h.failSlot h
      · exact h
    · exact h.awaitReserve

theorem slotOperatorOpen {n : Slot} (h : k.Meets π) : (k.slotOperatorOpen e n).Meets π := by
  unfold Control.slotOperatorOpen
  split
  case h_4 => exact h
  all_goals exact h.failSlot

theorem slotGranted {n : Slot} (h : k.Meets π) : (k.slotGranted e n).Meets π := by
  unfold Control.slotGranted
  exact ite h.setSlotState.slotClaimedDemand h

theorem slotClaimEnded {n : Slot} {c : Cause} (h : k.Meets π) : (k.slotClaimEnded e n c).Meets π := by
  unfold Control.slotClaimEnded
  split
  · exact h.enterSync
  · exact ite h h.failSlot
  · exact ite h h.leaveClosing.enterAwaiting
  · exact ite h h.leaveClosing.reserveSync.enterSync
  · exact h

theorem slotAttemptEnded {n : Slot} {r : AttemptReport} (h : k.Meets π) : (k.slotAttemptEnded e n r).Meets π := by
  unfold Control.slotAttemptEnded
  split
  · split
    · exact h.slotCompleted
    · exact h.failSlot
    · exact h.failSlot
    · exact h.failSlot
    · exact h.failSlot
    · exact h
  · exact h

theorem slotEvaluated {n : Slot} {slip : Option Int} (h : k.Meets π) : (k.slotEvaluated n slip).Meets π := by
  unfold Control.slotEvaluated
  split
  · exact ite h.modSlot h
  · exact h

theorem channelGsc {c : Channel} (h : k.Meets π) : (k.channelGsc e c).Meets π := by
  unfold Control.channelGsc
  split
  · exact h.judgeStarting
  · exact ite (h.forEach fun _ _ h => h.judgeBus) h

theorem holdEndedGsc (h : k.Meets π) : (k.holdEndedGsc e).Meets π :=
  ((h.forEach fun _ _ h => h.modSlot).forEach fun _ _ h => h.judgeBus.judgeClosing).tell

theorem holdEnteredGsc (h : k.Meets π) : (k.holdEnteredGsc e).Meets π := h.forEach fun _ _ h => h.modSlot

theorem reclamp (h : k.Meets π) : (k.reclamp).Meets π := h.forEach fun _ _ h => h.modSlot

theorem resetSlotSequence {n : Slot} (h : k.Meets π) : (k.resetSlotSequence e n).Meets π := by
  unfold Control.resetSlotSequence
  refine modSlot ?_
  split
  · exact h.setSlotState
  · exact h.setSlotState
  · exact ite h h.setSlotState
  · exact ite h h.setSlotState
  · exact ite h h.setSlotState
  · exact h

/-! ## TSQ -/

theorem modXfer {l : Bus} {f : TransferRec → TransferRec} (h : k.Meets π) : (k.modXfer l f).Meets π := h.frame (by rfl)

theorem updateRequired (h : k.Meets π) : (k.updateRequired).Meets π := by
  unfold Control.updateRequired
  exact ite h (h.frame (by rfl))

theorem cancelTransferAttempt {l : Bus} (h : k.Meets π) : (k.cancelTransferAttempt e l).Meets π := by
  unfold Control.cancelTransferAttempt
  split
  · exact h.endAttempt
  · exact h

theorem letGo {l : Bus} {b : Option Breaker} (h : k.Meets π) : (k.letGo e l b).Meets π := by
  cases b
  · exact h
  · exact h.endClaims.releaseReservation

theorem endTransfer {l : Bus} {c : Cause} (h : k.Meets π) : (k.endTransfer e l c).Meets π := by
  have hgone : ((((k.cancelTransferAttempt e l).letGo e l (k.xfer l).arriving).letGo e l (k.xfer l).retiring).modXfer l
      fun x => x.ended c).Meets π := h.cancelTransferAttempt.letGo.letGo.modXfer
  exact hgone.withTsq.updateRequired.modXfer.record.tell

theorem noteRefusal {l : Bus} (h : k.Meets π) : (k.noteRefusal e l).Meets π := by
  unfold Control.noteRefusal
  exact ite h (h.frame (by rfl))

theorem reserveOne {l : Bus} {b : Option Breaker} (h : k.Meets π) : (k.reserveOne e l b).1.Meets π := by
  cases b with
  | none => exact h
  | some b =>
    have hres := h.reserve (e := e) (b := b) (x := .transfer l)
    unfold Control.reserveOne
    dsimp only
    split
    · exact h
    · split
      · next heq => exact hres.of_eq heq
      · next heq => exact (hres.of_eq heq).noteRefusal
      · next heq => exact (hres.of_eq heq).noteRefusal
      · next heq => exact hres.of_eq heq

theorem reserveDemands {l : Bus} (h : k.Meets π) : (k.reserveDemands e l).Meets π := by
  have hret := h.reserveOne (e := e) (l := l) (b := (k.xfer l).retiring)
  unfold Control.reserveDemands
  split
  · next heq => exact (hret.of_eq heq).endTransfer
  · next k1 heq =>
    have harr := (hret.of_eq heq).reserveOne (e := e) (l := l) (b := (k1.xfer l).arriving)
    split
    · next heq => exact (harr.of_eq heq).endTransfer
    · next heq => exact (harr.of_eq heq).tell

theorem openRetiring {l : Bus} (h : k.Meets π) : (k.openRetiring e l).Meets π := by
  unfold Control.openRetiring
  split
  · exact h.bcuOpen
  · exact h

theorem overlapDone {l : Bus} (h : k.Meets π) : (k.overlapDone e l).Meets π := by
  unfold Control.overlapDone
  split
  · exact ite h.endTransfer h
  · exact h

theorem arrivalStarted {l : Bus} (h : k.Meets π) : (k.arrivalStarted l).Meets π := h.modXfer

theorem arrivingDemand {l : Bus} (h : k.Meets π) : (k.arrivingDemand e l).1.Meets π := by
  unfold Control.arrivingDemand
  split
  · exact h.closeDemand
  · exact h

theorem arrivalAnswer {l : Bus} {a : Answer} (h : k.Meets π) : (k.arrivalAnswer e l a).Meets π := by
  cases a
  · exact ite h.modXfer h.endTransfer
  · exact h.arrivalStarted
  · exact h.endTransfer
  · exact h.endTransfer
  · exact h.modXfer

theorem arrivalDemand {l : Bus} (h : k.Meets π) : (k.arrivalDemand e l).Meets π := by
  unfold Control.arrivalDemand
  dsimp only
  split
  · exact h.arrivingDemand.arrivingDemand.arrivalAnswer
  · exact h.arrivingDemand.arrivalAnswer

theorem passStep {l : Bus} {n : AttemptNo} (h : k.Meets π) : (k.passStep l n).Meets π := by
  unfold Control.passStep
  split
  · exact ite h.modXfer.setAttempt h
  · exact h

theorem takeStage {l : Bus} {s : Stage} (h : k.Meets π) : (k.takeStage e l s).Meets π :=
  h.modXfer.record.updateRequired

theorem overlapDemands {l : Bus} (h : k.Meets π) : (k.overlapDemands e l).Meets π := h.openRetiring.overlapDone

theorem transferSyncDemand {l : Bus} (h : k.Meets π) : (k.transferSyncDemand e l).Meets π := by
  have hout := h.arrivingDemand (e := e) (l := l)
  unfold Control.transferSyncDemand
  split
  · next heq => exact (hout.of_eq heq).modXfer.passStep
  · next heq => exact ite (hout.of_eq heq).modXfer (hout.of_eq heq).endTransfer
  · next heq => exact (hout.of_eq heq).takeStage.overlapDemands
  · next heq => exact (hout.of_eq heq).endTransfer
  · next heq => exact (hout.of_eq heq).endTransfer

theorem transferPreShed {l : Bus} (h : k.Meets π) : (k.transferPreShed e l).Meets π := h.modXfer.preShed.modXfer

theorem entryDemands {l : Bus} {s : Stage} (h : k.Meets π) : (k.entryDemands e l s).Meets π := by
  cases s
  · exact h.tell
  · exact h.reserveDemands
  · exact h.openRetiring.tell
  · exact h.tell
  · exact ite h.tell h.endTransfer
  · exact h.transferPreShed
  · exact h.transferSyncDemand
  · exact ite h.arrivalDemand h
  · exact h.overlapDemands

theorem enterStage {l : Bus} {s : Stage} (h : k.Meets π) : (k.enterStage e l s).Meets π := h.takeStage.entryDemands

theorem advanceTransfer {l : Bus} (h : k.Meets π) : (k.advanceTransfer e l).Meets π := by
  unfold Control.advanceTransfer
  split
  · exact h
  · split
    · exact h.enterStage
    · exact h

theorem createTransfer {l : Bus} {origin : Cause} {t : Option Target} {m : Mode} (h : k.Meets π) :
    (k.createTransfer e l origin t m).Meets π := by
  cases t
  · exact h.modXfer.endTransfer
  · exact h.modXfer.enterStage

theorem autoCreate {l : Bus} {origin : Cause} {t : Option Target} {m : Mode} (h : k.Meets π) :
    (k.autoCreate e l origin t m).Meets π := createTransfer (h.frame (by rfl))

theorem evaluateTriggers {l : Bus} (h : k.Meets π) : (k.evaluateTriggers e l).Meets π := by
  unfold Control.evaluateTriggers
  refine ite h (ite h.autoCreate (ite h.autoCreate ?_))
  split
  · split
    · exact h.autoCreate
    · exact h
  · exact h

theorem triggers (h : k.Meets π) : (k.triggers e).Meets π := h.evaluateTriggers.evaluateTriggers

theorem judgeGbLoss (h : k.Meets π) : (k.judgeGbLoss e).Meets π := by
  unfold Control.judgeGbLoss
  exact ite (ite h (h.frame (by rfl))) (h.frame (by rfl))

theorem stalenessTsq (h : k.Meets π) : (k.stalenessTsq e).Meets π := h.frame (by rfl)

theorem loseTarget {l : Bus} (h : k.Meets π) : (k.loseTarget e l).Meets π := by
  unfold Control.loseTarget
  exact ite h.endTransfer h

theorem supplyTsq {l : Bus} {old : Supply} (h : k.Meets π) : (k.supplyTsq e l old).Meets π := by
  unfold Control.supplyTsq
  dsimp only
  have h1 := h.judgeGbLoss (e := e)
  have h2 : (if (k.judgeGbLoss e).tiu.supply.get l = .dead then k.judgeGbLoss e
      else (k.judgeGbLoss e).modXfer l fun x => { x with recoverArmed := false }).Meets π := ite h1 h1.modXfer
  generalize (if (k.judgeGbLoss e).tiu.supply.get l = .dead then k.judgeGbLoss e else _) = k2 at h2 ⊢
  have h3 : (if (k2.xfer l).inProgress && supplyEnds k2 l then k2.endTransfer e l .supplyChanged else k2).Meets π :=
    ite h2.endTransfer h2
  exact (ite h3.loseTarget h3).updateRequired.tell

theorem tripEnds {l : Bus} {c : Cause} (h : k.Meets π) : (k.tripEnds e l c).Meets π := by
  unfold Control.tripEnds
  exact ite h (ite h.endTransfer (ite h.endTransfer h))

theorem retiringEnded {l : Bus} {b : Breaker} {fin : OpEnd} (h : k.Meets π) :
    (k.retiringEnded e l b fin).Meets π := by
  unfold Control.retiringEnded
  split
  · exact h.tell
  · split
    · exact ite h.endTransfer h
    · exact ite h.endTransfer h.tell

theorem transferOpEnded {l : Bus} {r : OpReport} (h : k.Meets π) : (k.transferOpEnded e l r).Meets π := by
  unfold Control.transferOpEnded
  dsimp only
  split
  · exact h
  · split
    · exact ite h.endTransfer h
    · exact ite h.endTransfer h
    · exact ite h.endTransfer (ite h.tripEnds h)
    · exact ite h.tripEnds h.retiringEnded
    · exact h.retiringEnded

theorem transferObserved {l : Bus} {b : Breaker} {new : Observed} (h : k.Meets π) :
    (k.transferObserved e l b new).Meets π :=
  ite h (ite h.endTransfer (ite h.endTransfer (ite h.endTransfer h.tell)))

theorem transferClaimEnded {l : Bus} {b : Breaker} {c : Cause} (h : k.Meets π) :
    (k.transferClaimEnded e l b c).Meets π := by
  unfold Control.transferClaimEnded
  dsimp only
  split
  · exact h
  · split
    · exact h.endTransfer
    · exact h.endTransfer
    · exact h.endTransfer
    · exact h

theorem transferGranted {l : Bus} (h : k.Meets π) : (k.transferGranted e l).Meets π :=
  ite h (ite h h.arrivalDemand)

theorem transferIssued {l : Bus} {n : AttemptNo} (h : k.Meets π) : (k.transferIssued e l n).Meets π := by
  unfold Control.transferIssued
  exact ite h.modXfer.enterStage h

theorem transferAttemptEnded {l : Bus} {r : AttemptReport} (h : k.Meets π) :
    (k.transferAttemptEnded e l r).Meets π := by
  unfold Control.transferAttemptEnded
  split
  · exact h
  · split
    · exact h.enterStage
    · exact h.endTransfer
    · exact h.endTransfer
    · exact h.endTransfer
    · exact h

theorem overlapTsq {g : PerChannel Bool} (h : k.Meets π) : (k.overlapTsq e g).Meets π :=
  h.forEach fun _ _ h => ite h.endTransfer h

theorem retryTransfer {l : Bus} (h : k.Meets π) : (k.retryTransfer e l).Meets π := by
  unfold Control.retryTransfer
  exact ite h (ite h.arrivalDemand (ite h.transferSyncDemand h))

theorem frameTsq (h : k.Meets π) : (k.frameTsq e).Meets π := h.forEach fun _ _ h => (ite h.tell h).retryTransfer

theorem repeatReserve {l : Bus} (h : k.Meets π) : (k.repeatReserve e l).Meets π := by
  unfold Control.repeatReserve
  exact ite h.reserveDemands h

theorem repeatReserves (h : k.Meets π) : (k.repeatReserves e).Meets π := h.forEach fun _ _ h => h.repeatReserve

theorem freezeStages (h : k.Meets π) : (k.freezeStages e).Meets π := h.forEach fun _ _ h => h.modXfer

theorem withdrawSteps (h : k.Meets π) : (k.withdrawSteps e).Meets π := frame (h.forEach fun _ _ h => h.modXfer) (by rfl)

theorem withheldDemands {l : Bus} (h : k.Meets π) : (k.withheldDemands e l).Meets π := by
  unfold Control.withheldDemands
  exact ite h.arrivalDemand (ite h.transferSyncDemand h)

theorem enterHold {p : Port} (h : k.Meets π) : (k.enterHold e p).Meets π := by
  have hhold : ({ k with tsq := { k.tsq with hold := true } } : Control).Meets π := h.frame (by rfl)
  exact hhold.record.freezeStages.holdEnteredGsc.withLdm

theorem leaveHold {c : Cause} (h : k.Meets π) : (k.leaveHold e c).Meets π :=
  (record (h.frame (by rfl))).withdrawSteps.tell

theorem holdEnded (h : k.Meets π) : (k.holdEnded e).Meets π :=
  h.repeatReserves.withheldDemands.withheldDemands.holdEndedGsc.withLdm.tell

theorem useStep {l : Bus} (h : k.Meets π) : (k.useStep e l).Meets π := by
  unfold Control.useStep
  dsimp only
  split
  · split
    · exact h.passStep
    · exact h.transferSyncDemand
  · exact ite (ite h.arrivalDemand h) (ite h.reserveDemands h.advanceTransfer)

/-! ## Notices taken up -/

theorem atTransfer {t : Option TransferMark} {f : Bus → Control → Control} (h : k.Meets π)
    (hf : ∀ l, (f l k).Meets π) : (k.atTransfer t f).Meets π := by
  unfold Control.atTransfer
  split
  · exact ite (hf _) h
  · exact h

theorem operatorOpened {b : Breaker} {t : Option TransferMark} {x : Holder} (h : k.Meets π) :
    (k.operatorOpened e b t x).Meets π := by
  unfold Control.operatorOpened
  split
  · exact h.atTransfer fun _ => h.endTransfer
  · exact h.slotOperatorOpen
  · split
    · exact h.feederOperatorOpen
    · exact h
  · exact ite h.endAttempt h
  · exact h.endClaims

theorem observedTaken {b : Breaker} {new : Observed} {op : Option Operation} {first : Bool} {t : Option TransferMark}
    (h : k.Meets π) : (k.observedTaken e b new op first t).Meets π := by
  unfold Control.observedTaken
  cases breakerSlot b <;> cases breakerBlock b <;> dsimp only
  · exact ite (h.atTransfer fun _ => h.transferObserved) h
  · exact ite (h.feederObserved.atTransfer fun _ => h.feederObserved.transferObserved) h.feederObserved
  · exact ite (h.slotObserved.atTransfer fun _ => h.slotObserved.transferObserved) h.slotObserved
  · exact ite (h.slotObserved.feederObserved.atTransfer fun _ => h.slotObserved.feederObserved.transferObserved)
      h.slotObserved.feederObserved

theorem opEndedTaken {r : OpReport} (h : k.Meets π) : (k.opEndedTaken e r).Meets π := by
  have h1 := h.syncReport (e := e) (r := r)
  have h2 : (if r.byAttempt then k.syncReport e r
      else (k.syncReport e r).atTransfer r.transfer fun l k => k.transferOpEnded e l r).Meets π :=
    ite h1 (h1.atTransfer fun _ => h1.transferOpEnded)
  unfold Control.opEndedTaken
  dsimp only
  cases breakerSlot r.breaker <;> cases breakerBlock r.breaker <;> dsimp only
  · exact h2.repeatReserves
  · exact h2.feederOpEnded.repeatReserves
  · exact h2.slotOpEnded.repeatReserves
  · exact h2.slotOpEnded.feederOpEnded.repeatReserves

theorem releasedTaken {b : Breaker} (h : k.Meets π) : (k.releasedTaken e b).Meets π := by
  unfold Control.releasedTaken
  dsimp only
  split
  · exact h.repeatReserves.awaitReserve
  · exact h.repeatReserves

theorem serviceTaken {b : Breaker} (h : k.Meets π) : (k.serviceTaken e b).Meets π := by
  unfold Control.serviceTaken
  cases breakerSlot b <;> cases breakerBlock b <;> dsimp only
  · exact h
  · exact h.feederService
  · exact h.judgeAvailable
  · exact h.judgeAvailable.feederService

theorem demandPortClaim {c : ClaimBus} (h : k.Meets π) : (k.demandPortClaim e c).Meets π := by
  unfold Control.demandPortClaim
  split
  · exact ite h.closeDemand h
  · exact h

theorem grantTaken {c : ClaimBus} {p : Party} (h : k.Meets π) : (k.grantTaken e c p).Meets π := by
  unfold Control.grantTaken
  split
  · exact h.transferGranted
  · exact h.slotGranted
  · exact h.demandPortClaim
  · exact h

theorem claimEndTaken {b : Breaker} {c : Cause} {p : Party} (h : k.Meets π) : (k.claimEndTaken e b c p).Meets π := by
  unfold Control.claimEndTaken
  split
  · exact h.transferClaimEnded
  · exact h.slotClaimEnded
  · exact h

theorem attemptEndTaken {r : AttemptReport} (h : k.Meets π) : (k.attemptEndTaken e r).Meets π := by
  unfold Control.attemptEndTaken
  split
  · exact h.transferAttemptEnded
  · exact h.slotAttemptEnded
  · exact h

theorem issueTaken {n : AttemptNo} {r : Requester} (h : k.Meets π) : (k.issueTaken e n r).Meets π := by
  unfold Control.issueTaken
  split
  · exact h.transferIssued
  · exact h

theorem healthTaken {u : Utility} (h : k.Meets π) : (k.healthTaken e u).Meets π :=
  (ite (ite h.loseTarget h).loseTarget (ite h.loseTarget h)).triggers

theorem availabilityTaken (h : k.Meets π) : (k.availabilityTaken e).Meets π :=
  (ite (ite h.judgeGbLoss.loseTarget h.judgeGbLoss).loseTarget (ite h.judgeGbLoss.loseTarget h.judgeGbLoss)).tell

/-- Whatever a block does with a notice keeps every promise. -/
theorem handle {m : Notice} (h : k.Meets π) : (k.handle e m).Meets π := by
  cases m
  case frameSmn => exact h.frameSmn
  case framePru => exact h.framePru
  case frameTiu => exact h.classOccasion
  case frameLdm => exact h.frameLdm
  case frameGsc => exact h.forEach fun _ _ h => h.frameSlot
  case frameTsq => exact h.frameTsq
  case stalenessSmn => exact h.stalenessSmn
  case stalenessTsq => exact h.stalenessTsq
  case stalenessLdm => exact h.stalenessLdm
  case stalenessTiu => exact h.classOccasion
  case stalenessGsc => exact h.forEach fun _ _ h => h.judgeBus
  case edgeSye => exact h.syncEdge
  case periodLdm => exact ite h.judgeUfStages h
  case channelSmn => exact h.channelSmn
  case channelTiu => exact h.classOccasion
  case channelLdm => exact ite h.judgeUfStages h
  case channelGsc => exact h.channelGsc
  case healthChanged => exact h.healthTaken
  case availabilityChanged => exact h.availabilityTaken
  case observed => exact h.observedTaken
  case opEnded => exact h.opEndedTaken
  case operatorOpen => exact h.operatorOpened
  case relabelled => exact h.atTransfer fun _ => h.tripEnds
  case released => exact h.releasedTaken
  case serviceChanged => exact h.serviceTaken
  case supplyChanged => exact h.supplyTsq.tell.supplyLdm
  case claimGranted => exact h.grantTaken
  case claimEnded => exact h.claimEndTaken
  case portClaimDemand => exact h.demandPortClaim
  case overlapExpired => exact h.overlapTsq
  case portFeederClose b =>
    unfold Control.handle
    dsimp only
    split
    · exact h.feederPortClose
    · exact h
  case evaluation => exact h.slotEvaluated
  case closeIssued => exact h.issueTaken
  case attemptEnded => exact h.attemptEndTaken
  case slotChanged => exact h.triggers
  case capacityChanged => exact h.tell.capacityLdm
  case planEvaluation => exact h.evaluatePlan
  case blockChanged => exact h.updateRequired.tell
  case seekRestore => exact h.seekRestore
  case preShedEnded => exact ite h.modXfer.tell h
  case triggers => exact h.triggers
  case progress => exact h.advanceTransfer
  case holdEnded => exact h.holdEnded

/-- All that follows from a command keeps every promise. -/
theorem settle {n : Nat} (h : k.Meets π) : (k.settle e n).Meets π := by
  induction n generalizing k with
  | zero => exact h
  | succ n ih =>
    unfold Control.settle
    split
    · exact h
    · next m rest _ =>
      have hquiet : ({ k with notices := [] } : Control).Meets π := h.frame (by rfl)
      have hm := hquiet.handle (e := e) (m := m)
      exact ih (hm.frame (by rfl))

/-- An operation that keeps a promise keeps it with all that follows. -/
theorem run {f : Control → Control} (hf : ∀ {k}, k.Meets π → (f k).Meets π) (h : k.Meets π) : (k.run e f).Meets π :=
  (hf (h.frame (by rfl))).settle

end Sys2Proof.Machine.Control.Meets
end

section
/-! What each command keeps of the promises about roles, coils, event queue and element accumulators, command by command. -/

namespace Sys2Proof.Machine.Control.Meets

variable {π : Promise} {e : Sensed} {k k' : Control}

/-! ## Measurement and keys -/

theorem frameDelivered {fresh first : Bool} (h : k.Meets π) : (Control.frameDelivered e fresh first k).Meets π := by
  have htold : ((k.recordKind e .measurementFresh).tell stalenessNotices).Meets π := h.recordKind.tell
  have hfresh := ite (c := fresh = true) htold h
  exact tell (ite hfresh.withTsq hfresh)

theorem channelEvent {c : Channel} {old : ChannelState} (h : k.Meets π) : (Control.channelEvent e c old k).Meets π := by
  unfold Control.channelEvent
  dsimp only
  split
  · exact ite h h.recordNoCause
  · exact ite h.record h
  · exact h.record

theorem edgeDelivered {c : Channel} {old : ChannelState} {kind : EdgeKind} (h : k.Meets π) :
    (Control.edgeDelivered e c old kind k).Meets π := by
  have hevent : (k.channelEvent e c old).Meets π := h.channelEvent
  have hsye := ite (c := kind = .early) hevent (hevent.tell (ns := [.edgeSye c]))
  cases kind
  case period => exact ite hsye.tell hsye.tell.tell
  all_goals exact ite hsye hsye.tell

theorem keyEffect {key : Key} (h : k.Meets π) : (k.keyEffect e key).Meets π := by
  have hkey : (k.modKey key fun r => { r with level := r.input, timing := .off, fromReset := false }).Meets π :=
    h.frame (by rfl)
  exact ite (ite hkey hkey.record).leaveHold (ite hkey hkey.record)

/-! ## Generators and loads -/

theorem readyChanged {n : Slot} {level : Bool} (h : k.Meets π) : (k.readyChanged e n level).Meets π :=
  ite h.modSlot.judgeStarting h.modSlot.readyLost

theorem startSlot {n : Slot} (h : k.Meets π) : (k.startSlot e n).1.Meets π := by
  unfold Control.startSlot
  split
  · exact h.modSlot.setSlotState
  · exact ite h.modSlot h
  · exact ite h.modSlot h
  · exact ite h.modSlot h
  · exact ite h.modSlot h
  · exact ite h.modSlot h
  all_goals exact h

theorem stopSlot {n : Slot} (h : k.Meets π) : (k.stopSlot e n).1.Meets π := by
  have hbarred : (k.barSlot n).Meets π := h.modSlot
  unfold Control.stopSlot
  dsimp only
  split
  · split
    · exact h
    · exact hbarred.setSlotState
  · exact hbarred.restSlot
  · exact hbarred.restSlot
  · split
    · exact hbarred.modSlot
    · exact hbarred.restSlot
  · exact hbarred.modSlot
  all_goals exact hbarred

theorem requestResetSlot {n : Slot} (h : k.Meets π) : (k.requestResetSlot e n).1.Meets π := by
  unfold Control.requestResetSlot
  split
  · exact h
  · exact h.modSlot.setSlotState

theorem biasSet {d : Nat} {n : Slot} (h : k.Meets π) : (k.biasSet d n).1.Meets π := by
  unfold Control.biasSet
  split
  · exact h
  · split
    · exact h
    · exact h.modSlot

theorem shedRequest {mask : Byte} (h : k.Meets π) : (k.shedRequest e mask).1.Meets π := h.forEach fun _ _ h => h.shed

theorem restoreRequest {mask : Byte} (h : k.Meets π) : (k.restoreRequest e mask).1.Meets π :=
  (h.withLdm.forEach fun _ _ h => h.modBlock).seekRestore

theorem blockRequest {mask : Byte} (h : k.Meets π) : (k.blockRequest mask).1.Meets π :=
  h.forEach fun _ _ h => h.setBlock

theorem unblockRequest {mask : Byte} (h : k.Meets π) : (k.unblockRequest mask).1.Meets π :=
  h.forEach fun _ _ h => h.setBlock

/-! ## Ports and events -/

/-- A port's context written keeps the promises if the port is then ACTIVE only as a supervisor and alone, and with a lapse
timer only as ACTIVE. -/
theorem modPort {p : Port} {f : PortRec → PortRec} (h : k.Meets π)
    (hone : k.RolesSound → (f (k.port p)).role = .active → p ≠ .cpP ∧ ∀ q, q ≠ p → (k.port q).role ≠ .active)
    (hpanel : k.RolesSound → p = .cpP → (f (k.port p)).role = .standby)
    (hlapse : k.RolesSound → (f (k.port p)).role ≠ .active → (f (k.port p)).lapse = .off) :
    (k.modPort p f).Meets π := by
  cases π
  case coils => exact h
  case queue => exact h
  case elements => exact h
  case roles =>
    have hport : ∀ q, (k.modPort p f).port q = if q = p then f (k.port p) else k.port q := fun q => by
      split
      · next hq => rw [hq, port_modPort_same]
      · next hq => exact port_modPort_other k f hq
    obtain ⟨honly, hstandby, hoff⟩ := id h
    refine ⟨?_, ?_, fun q => ?_⟩
    · rintro ⟨ha, hb⟩
      rw [hport] at ha hb
      cases p
      case cpA => exact (hone h ha).2 .cpB (by decide) hb
      case cpB => exact (hone h hb).2 .cpA (by decide) ha
      case cpP => exact honly ⟨ha, hb⟩
    · rw [hport]
      split
      · next hp => exact hpanel h hp.symm
      · exact hstandby
    · rw [hport]
      split
      · exact hlapse h
      · exact hoff q

/-- A port's context written but for its role and lapse timer. -/
theorem writePort {p : Port} {f : PortRec → PortRec} (h : k.Meets π)
    (hf : ∀ r, (f r).role = r.role ∧ (f r).lapse = r.lapse) : (k.modPort p f).Meets π := by
  refine h.modPort (fun hk hactive => ?_) (fun hk hp => ?_) fun hk => ?_
  · rw [(hf _).1] at hactive
    obtain ⟨honly, hstandby, -⟩ := hk
    cases p
    case cpA => exact ⟨by decide, fun q hq hb => by cases q <;> simp_all⟩
    case cpB => exact ⟨by decide, fun q hq ha => by cases q <;> simp_all⟩
    case cpP => rw [hstandby] at hactive; cases hactive
  · rw [(hf _).1, hp]; exact hk.2.1
  · rw [(hf _).1, (hf _).2]; exact hk.2.2 p

/-- The lapse timer reloaded of an ACTIVE port alone (R168). -/
theorem reloadLapse {p : Port} (h : k.Meets π) : (k.reloadLapse e p).Meets π := by
  unfold Control.reloadLapse
  split
  · next hactive =>
    obtain ⟨hp, hrole⟩ := isActive_iff.1 hactive
    refine h.modPort (fun hk _ => ⟨hp, fun q hq hother => ?_⟩) (fun _ hpanel => absurd hpanel hp)
      fun _ hnot => absurd hrole hnot
    obtain ⟨honly, hstandby, -⟩ := hk
    cases p <;> cases q <;> simp_all
  · exact h

/-- A cursor that moves on by what it has read still names a record held, or the number after the newest (R172). -/
theorem setCursor {p : Port} {n : Word16} (h : k.Meets π)
    (hn : k.erq.Sound → (k.erq.nextSeq - n).toNat ≤ k.erq.events.length) :
    (k.setCursor p n).Meets π := by
  cases π
  case roles => exact h
  case coils => exact h
  case elements => exact h
  case queue =>
    obtain ⟨hlen, hseq, hcur⟩ := id h
    refine ⟨hlen, hseq, fun q => ?_⟩
    change (k.erq.nextSeq - (k.erq.cursors.set p n).get q).toNat ≤ k.erq.events.length
    rw [PerPort.get_set]
    split
    · exact hn h
    · exact hcur q

theorem readEvents {p : Port} {n : Nat} (h : k.Meets π) : (k.readEvents p n).1.Meets π := by
  unfold Control.readEvents
  split
  · exact h
  · refine h.setCursor fun hq => ?_
    have hread := eventsFrom_length hq p n
    have hheld := unread_le_length hq p
    have hbelow : (k.erq.nextSeq - k.erq.cursors.get p).toNat = unread k p := rfl
    have hmin := Nat.min_le_right n (unread k p)
    bv_omega

theorem acknowledgeEvents {p : Port} (h : k.Meets π) : (k.acknowledgeEvents p).1.Meets π :=
  h.setCursor fun _ => by simp

/-- A supervisor takes the role while no port is ACTIVE (R166). -/
theorem takeOver {p : Port} (h : k.Meets π) (hp : p ≠ .cpP) : (k.takeOver e p).1.Meets π := by
  unfold Control.takeOver
  split
  · exact h
  · next hnone =>
    obtain ⟨ha, hb⟩ := activePort_eq_none_iff.1 hnone
    refine record (h.modPort (fun hk _ => ⟨hp, fun q _ => ?_⟩) (fun _ hpanel => absurd hpanel hp)
      fun _ hnot => absurd rfl hnot)
    cases q
    case cpA => exact ha
    case cpB => exact hb
    case cpP => rw [hk.2.1]; decide

/-- A port that is not ACTIVE afterwards has no lapse timer then (R167, R168). -/
theorem setRole {p : Port} {role : Role} (h : k.Meets π) (hrole : role ≠ .active)
    (hpanel : p = .cpP → role = .standby) : (k.setRole p role .off).Meets π :=
  h.modPort (fun _ hactive => absurd hactive hrole) (fun _ => hpanel) fun _ _ => rfl

theorem releaseRole {p : Port} (h : k.Meets π) : (k.releaseRole e p).1.Meets π := by
  unfold Control.releaseRole
  split
  · exact h
  · exact (h.setRole (by decide) fun _ => rfl).record
  · exact (h.setRole (by decide) fun _ => rfl).record

theorem lapse {p : Port} (h : k.Meets π) (hp : p ≠ .cpP) : (k.lapse e p).Meets π :=
  (h.setRole (by decide) fun hpanel => absurd hpanel hp).record

/-! ## Settings and curves -/

theorem selectGroup {p : Port} {g : GroupNo} (h : k.Meets π) : (k.selectGroup e p g).1.Meets π := by
  have hput : (k.putWorking { k.sst.working with active := g }).Meets π := h.frame (by rfl)
  unfold Control.selectGroup
  split
  · exact h
  · split
    · exact h
    · exact hput.record.startWrite

theorem ratingWritten {old : Nat} (h : k.Meets π) : (k.ratingWritten e old).Meets π :=
  ite h.tell h.capacitySmn.tell

theorem settingWritten {r : ItemRef} {old : Nat} (h : k.Meets π) : (k.settingWritten e r old).Meets π := by
  have hsorted : k.sortShedList.Meets π := h.withLdm
  have hrestarted : (k.restartInterval e).Meets π := h.withLdm
  unfold Control.settingWritten
  split
  · exact h.judgeAvailable.tell
  · exact h.ratingWritten
  · exact h.tell
  · exact h.reclamp
  · exact h.reclamp
  · exact h.updateRequired
  · exact hsorted.updateRequired
  · exact hrestarted
  · exact ite h.tell h

theorem writeSetting {p : Port} {r : ItemRef} {v : Nat} (h : k.Meets π) : (k.writeSetting e p r v).Meets π := by
  have hput : (k.putWorking (withValue k r v)).Meets π := h.frame (by rfl)
  exact hput.record.startWrite.settingWritten

theorem requestWrite {p : Port} {r : ItemRef} {v : Nat} (h : k.Meets π) : (k.requestWrite e p r v).1.Meets π := by
  unfold Control.requestWrite
  split
  · exact h
  · exact h.writeSetting

theorem putBuffer {b : CurveBuffer} (h : k.Meets π) : (k.putBuffer b).Meets π := h.frame (by rfl)

theorem curveEntry {p : Port} {x : CurveEntry} (h : k.Meets π) : (k.curveEntry e p x).1.Meets π := by
  have hput : ∀ k' : Control, k'.Meets π → ∀ d, (k'.putWorking d).Meets π := fun _ h _ => h.frame (by rfl)
  unfold Control.curveEntry Control.validateCurve
  dsimp only
  split
  · exact h
  split
  · exact h
  split
  · exact h.putBuffer
  split
  · exact h
  split
  · exact (hput _ h.putBuffer _).record.startWrite
  · exact h.putBuffer

/-! ## Breakers and transfers -/

theorem overlapExpire {o : OverlapTimer} (h : k.Meets π) : (k.overlapExpire e o).Meets π := by
  have hmarked : ({ k with tiu := { k.tiu with overlaps := k.tiu.overlaps.map fun t =>
      if t.group = o.group then { t with expired := true } else t } } : Control).Meets π := h.frame (by rfl)
  exact (hmarked.forEach fun _ _ h => h.bcuTrip).recordNoCause.tell

theorem portClose {p : Port} {b : Breaker} (h : k.Meets π) : (k.portClose e p b).1.Meets π := h.closeDemand

theorem portOpen {p : Port} {b : Breaker} (h : k.Meets π) : (k.portOpen e p b).1.Meets π := h.bcuOpen

theorem clearFlags {b : Breaker} (h : k.Meets π) : (k.clearFlags b).1.Meets π := h.modBreaker id

theorem resetLockout {p : Port} {b : Breaker} (h : k.Meets π) : (k.resetLockout e p b).1.Meets π := by
  have hput : (k.putLockout b ⟨false, .none⟩).Meets π := h.frame (by rfl)
  unfold Control.resetLockout
  split
  · exact h
  · split
    · exact h
    · exact (hput.modProt fun h => ⟨Nat.zero_le _, Nat.zero_le _, Nat.zero_le _, h.2.2.2⟩).handLockout.record

theorem service {b : Breaker} {set : Bool} (h : k.Meets π) : (k.service e set b).1.Meets π := by
  have hput : (k.putWorking { k.sst.working with outOfService := k.sst.working.outOfService.set b set }).Meets π :=
    h.frame (by rfl)
  unfold Control.service
  split
  · exact h
  · split
    · exact h
    · exact hput.record.startWrite.recompute.tell

theorem armDead {l : Bus} (h : k.Meets π) : (k.armDead l).Meets π := ite h.modXfer h

theorem requestTransfer {l : Bus} {t : Target} {m : Option Mode} (h : k.Meets π) :
    (k.requestTransfer e l t m).1.Meets π := by
  unfold Control.requestTransfer
  split
  · exact h
  · exact h.createTransfer

theorem cancelTransfer {l : Bus} (h : k.Meets π) : (k.cancelTransfer e l).1.Meets π := by
  unfold Control.cancelTransfer
  dsimp only
  split
  · exact h
  · split
    · exact h
    · exact h.endTransfer

theorem takeStep {l : Bus} (h : k.Meets π) : (k.takeStep e l).1.Meets π := by
  unfold Control.takeStep
  split
  · exact h
  split
  · exact h
  split
  · exact h
  · exact h.modXfer.useStep

theorem resetTransfers (h : k.Meets π) : (k.resetTransfers e).Meets π := h.forEach fun _ _ h => ite h.endTransfer h

theorem resetAttempts (h : k.Meets π) : (k.resetAttempts e).Meets π := by
  refine h.forEach fun n k h => ?_
  split
  · exact ite h.endAttempt h
  · exact h

theorem resetHolders {c : ClaimBus} {n : Nat} (h : k.Meets π) : (Control.resetHolders e c n k).Meets π := by
  induction n generalizing k with
  | zero => exact h
  | succ n ih => exact ite (ih h.endHolder) h

theorem resetClaim {c : ClaimBus} (h : k.Meets π) : (k.resetClaim e c).Meets π :=
  h.resetHolders.forEach fun _ _ h => h.endWaiting

theorem releaseAll (h : k.Meets π) : k.releaseAll.Meets π := by
  refine h.forEach fun b k h => ?_
  split
  · exact h.releaseReservation
  · exact h

theorem sequenceReset {p : Port} (h : k.Meets π) : (k.sequenceReset e p).1.Meets π :=
  (((h.record.resetAttempts.resetTransfers.forEach fun _ _ h => h.resetClaim).releaseAll.forEach
    fun _ _ h => h.resetSlotSequence).withLdm)

/-! ## Commands -/

theorem act {s t : State} {f : Control → Control} (h : s.control.Meets π) (ht : s.act f = .next t)
    (hf : ∀ {k}, k.Meets π → (f k).Meets π) : t.control.Meets π := by
  unfold State.act at ht
  split at ht
  all_goals
    injection ht with ht
    subst ht
  · exact h
  · exact h.run hf

theorem actSensed {s t : State} {e : Sensed} {f : Control → Control} (h : s.control.Meets π)
    (ht : s.actSensed e f = .next t) (hf : ∀ {k}, k.Meets π → (f k).Meets π) : t.control.Meets π := by
  unfold State.actSensed at ht
  split at ht
  all_goals
    injection ht with ht
    subst ht
  · exact h
  · exact h.run hf

theorem request {s t : State} {p : Port} {c : RequestClass} {owner : Control → Control × Response}
    (h : s.control.Meets π) (ht : s.request p c owner = .next t)
    (howner : ∀ {k}, k.Meets π → admissionRefusal k p c = none → (owner k).1.Meets π) : t.control.Meets π := by
  refine h.act ht fun {k} hk => ?_
  have hasked : (k.reloadLapse s.sensed p).Meets π := hk.reloadLapse
  unfold Control.judgeRequest
  dsimp only
  split
  · exact hasked.writePort fun _ => ⟨rfl, rfl⟩
  · next hadmitted => exact (howner hasked hadmitted).writePort fun _ => ⟨rfl, rfl⟩

/-- A request whose owner keeps the promises whoever asks. -/
theorem asking {s t : State} {p : Port} {c : RequestClass} {owner : Control → Control × Response}
    (h : s.control.Meets π) (ht : s.request p c owner = .next t)
    (howner : ∀ {k}, k.Meets π → (owner k).1.Meets π) : t.control.Meets π := h.request ht fun hk _ => howner hk

/-- A request whose operand names a breaker. -/
theorem withBreaker {x : Byte} {owner : Breaker → Control → Control × Response} (h : k.Meets π)
    (howner : ∀ {b}, (owner b k).1.Meets π) : (withBreaker x owner k).1.Meets π := by
  unfold Machine.withBreaker
  split
  · exact howner
  · exact h

/-- A request whose operand names a load bus. -/
theorem withBus {x : Byte} {owner : Bus → Control → Control × Response} (h : k.Meets π)
    (howner : ∀ {l}, (owner l k).1.Meets π) : (withBus x owner k).1.Meets π := by
  unfold Machine.withBus
  split
  · exact howner
  · exact h

/-- A request whose operand names a slot. -/
theorem withSlot {x : Byte} {owner : Slot → Control → Control × Response} (h : k.Meets π)
    (howner : ∀ {n}, (owner n k).1.Meets π) : (withSlot x owner k).1.Meets π := by
  unfold Machine.withSlot
  split
  · exact howner
  · exact h

/-! ## Device reset -/

theorem resetErq_sound (intact : Bool) : (resetErq intact).Sound := by
  cases intact
  · exact ⟨by decide, ⟨by decide, by decide, trivial⟩, fun p => by cases p <;> decide⟩
  · exact ⟨by decide, ⟨by decide, trivial⟩, fun p => by cases p <;> decide⟩

theorem emptyErq_sound : emptyErq.Sound := ⟨by decide, trivial, fun p => by cases p <;> decide⟩

theorem resetPru_bounded (b : Breaker) : (resetPru.records.get b).Bounded := by
  simp only [resetPru, PerBreaker.get_ofFn]
  exact ⟨Nat.zero_le _, Nat.zero_le _, Nat.zero_le _, Nat.zero_le _⟩

/-- Device reset leaves every promise met (R64, R160, R178). -/
theorem resetControl (image : StoreData) (intact : Bool) (inp : InputLevels) :
    (resetControl image intact inp).Meets π := by
  cases π
  case roles =>
    simp only [Meets, Control.RolesSound, Control.port, Machine.resetControl, resetCpi, PerPort.get_ofFn]
    exact ⟨by simp [resetPort], rfl, fun _ _ => rfl⟩
  case coils =>
    intro b
    simp only [Control.breaker, Machine.resetControl, PerBreaker.get_ofFn]
    exact ⟨rfl, rfl⟩
  case queue => exact resetErq_sound intact
  case elements => exact resetPru_bounded

/-- The assertion of the reset input leaves every promise met (R64, R160, R178). -/
theorem heldInReset : (heldInReset k).Meets π := by
  cases π
  case roles =>
    simp only [Meets, Control.RolesSound, Control.port, Machine.heldInReset, Machine.resetControl, resetCpi,
      PerPort.get_ofFn]
    exact ⟨by simp [resetPort], rfl, fun _ _ => rfl⟩
  case coils =>
    intro b
    simp only [Control.breaker, Machine.heldInReset, Machine.resetControl, PerBreaker.get_ofFn]
    exact ⟨rfl, rfl⟩
  case queue => exact emptyErq_sound
  case elements => exact resetPru_bounded

/-! ## Every command -/

/-- A command without effect. -/
theorem idle {s t : State} (h : s.control.Meets π) (ht : Host.Outcome.next (φ := Fault) (ρ := Refusal) s = .next t) :
    t.control.Meets π := by
  injection ht with ht
  subst ht
  exact h

/-- A command that takes an input level, which it keeps alone while reset is asserted. -/
theorem levelTaken {c : Prop} [Decidable c] {s s' t : State} {f : Control → Control} (h : s.control.Meets π)
    (ht : (if c then .next s else if s.inReset then .next s' else s.act f) = Host.Outcome.next t)
    (hs : s'.control.Meets π) (hf : ∀ {k}, k.Meets π → (f k).Meets π) : t.control.Meets π := by
  split at ht
  · exact h.idle ht
  split at ht
  · exact hs.idle ht
  · exact h.act ht hf

/-- A request that only reads. -/
theorem reading {s t : State} {p : Port} {c : RequestClass} {answer : Control → Response} (h : s.control.Meets π)
    (ht : (s.request p c fun k => (k, answer k)) = .next t) : t.control.Meets π := h.asking ht id

/-- The commands of the measured side keep every promise. -/
theorem execMeasurement {bytes : List Byte} {extraBits : Nat} {s t : State} (h : s.control.Meets π)
    (ht : execMeasurementFrame bytes extraBits s = .next t) : t.control.Meets π := by
  unfold execMeasurementFrame at ht
  dsimp only at ht
  split at ht
  · exact h.actSensed ht frameDelivered
  · exact h.idle ht

theorem execWatchdog {s t : State} (h : s.control.Meets π) (ht : execFrameWatchdogExpiry s = .next t) :
    t.control.Meets π := by
  unfold execFrameWatchdogExpiry at ht
  dsimp only at ht
  split at ht
  · exact h.actSensed ht fun h => ite (tell h.recordKind) h
  · exact h.idle ht

theorem execPulse {c : Channel} {s t : State} (h : s.control.Meets π) (ht : execPulseDiscarded c s = .next t) :
    t.control.Meets π := by
  unfold execPulseDiscarded at ht
  dsimp only at ht
  split at ht
  · split at ht
    · exact h.actSensed ht id
    · exact h.idle ht
  · exact h.idle ht

theorem execEdge {c : Channel} {s t : State} (h : s.control.Meets π) (ht : execQualifiedEdge c s = .next t) :
    t.control.Meets π := by
  unfold execQualifiedEdge at ht
  dsimp only at ht
  split at ht
  · split at ht
    · exact h.idle ht
    · exact h.actSensed ht edgeDelivered
  · exact h.idle ht

theorem execLastEdge {c : Channel} {s t : State} (h : s.control.Meets π) (ht : execLastEdgeTimerExpiry c s = .next t) :
    t.control.Meets π := by
  unfold execLastEdgeTimerExpiry at ht
  dsimp only at ht
  split at ht
  · exact h.actSensed ht fun h => h.channelEvent.tell
  · exact h.idle ht

theorem execLapse {p : Port} {s t : State} (h : s.control.Meets π) (ht : execLivenessLapse p s = .next t) :
    t.control.Meets π := by
  refine h.act ht fun h => ?_
  split
  · next hdue =>
    obtain ⟨hactive, -⟩ := Bool.and_eq_true_iff.1 hdue
    exact h.lapse (isActive_iff.1 hactive).1
  · exact h

theorem execAttempt {n : AttemptNo} {s t : State} (h : s.control.Meets π) (ht : execAttemptDeadline n s = .next t) :
    t.control.Meets π := by
  refine h.act ht fun h => ?_
  split
  · exact ite h.endAttempt h
  · exact h

theorem execOperation {b : Breaker} {s t : State} (h : s.control.Meets π) (ht : execOperationDeadline b s = .next t) :
    t.control.Meets π := by
  refine h.act ht fun h => ?_
  split
  · next op hop => exact ite (h.failOperation hop) h
  · exact h

theorem execClaim {c : ClaimBus} {s t : State} (h : s.control.Meets π) (ht : execClaimLapse c s = .next t) :
    t.control.Meets π := by
  refine h.act ht fun h => ?_
  split
  · exact ite h.endHolder h
  · exact h

theorem execOverlap {c : Channel} {s t : State} (h : s.control.Meets π) (ht : execOverlapExpiry c s = .next t) :
    t.control.Meets π := by
  refine h.act ht fun h => ?_
  split
  · exact h.overlapExpire
  · exact h

theorem execWrite {verified : Bool} {s t : State} (h : s.control.Meets π)
    (ht : execNonvolatileWriteCompletion verified s = .next t) : t.control.Meets π := by
  refine h.act ht fun h => ?_
  split
  · exact h.completeWrite
  · exact h

/-! ## The requests with more than one operand -/

theorem execHold {p : Port} {s t : State} (h : s.control.Meets π) (ht : execHold p s = .next t) :
    t.control.Meets π := by
  refine h.asking ht fun h => ?_
  split
  · exact h
  split
  · exact h
  · exact h.enterHold

theorem execService {p : Port} {b flag : Byte} {s t : State} (h : s.control.Meets π)
    (ht : execService p b flag s = .next t) : t.control.Meets π := by
  refine h.asking ht fun h => ?_
  split
  · exact h.withBreaker h.service
  · exact h

theorem execOperateClose {p : Port} {b : Byte} {s t : State} (h : s.control.Meets π)
    (ht : execOperateClose p b s = .next t) : t.control.Meets π := by
  refine h.asking ht fun h => ?_
  split
  · exact h.withBreaker h.portClose
  · exact h

theorem execTransfer {p : Port} {l target m : Byte} {s t : State} (h : s.control.Meets π)
    (ht : execTransfer p l target m s = .next t) : t.control.Meets π := by
  refine h.asking ht fun h => ?_
  split
  · exact h.requestTransfer
  · exact h

theorem execGroupSelect {p : Port} {g : Byte} {s t : State} (h : s.control.Meets π)
    (ht : execGroupSelect p g s = .next t) : t.control.Meets π := by
  refine h.asking ht fun h => ?_
  split
  · exact h.selectGroup
  · exact h

theorem execWindow {p : Port} {g : Byte} {s t : State} (h : s.control.Meets π) (ht : execWindow p g s = .next t) :
    t.control.Meets π := by
  refine h.asking ht fun h => ?_
  split
  · exact h.writePort fun _ => ⟨rfl, rfl⟩
  · exact h

theorem execSettingRead {p : Port} {c i : Byte} {s t : State} (h : s.control.Meets π)
    (ht : execSettingRead p c i s = .next t) : t.control.Meets π := by
  refine h.asking ht fun h => ?_
  split
  · exact h
  · exact h

theorem execSettingWrite {p : Port} {c i : Byte} {v : Word32} {s t : State} (h : s.control.Meets π)
    (ht : execSettingWrite p c i v s = .next t) : t.control.Meets π := by
  refine h.asking ht fun h => ?_
  split
  · exact h.requestWrite
  · exact h

theorem execCurveBegin {p : Port} {c : Byte} {s t : State} (h : s.control.Meets π)
    (ht : execCurveBegin p c s = .next t) : t.control.Meets π := by
  refine h.asking ht fun h => ?_
  split
  · exact h.putBuffer
  · exact h

/-- Every command keeps every promise. -/
theorem exec {c : Instr} {s t : State} (h : s.control.Meets π) (ht : exec c s = .next t) : t.control.Meets π := by
  cases c
  case measurementFrame => exact h.execMeasurement ht
  case frameWatchdogExpiry => exact h.execWatchdog ht
  case zeroCrossingRise => exact h.actSensed ht id
  case pulseDiscarded => exact h.execPulse ht
  case qualifiedEdge => exact h.execEdge ht
  case lastEdgeTimerExpiry => exact h.execLastEdge ht
  case lossDelayExpiry => exact h.act ht fun h => ite h.setHealth h
  case returnStableExpiry => exact h.act ht fun h => ite h.setHealth h
  case attemptDeadline => exact h.execAttempt ht
  case contactCombinationChange => exact h.levelTaken ht (h.modBreaker id) fun h => h.modBreaker id
  case contactSettle => exact h.act ht fun h => ite h.settleContacts h
  case operationDeadline => exact h.execOperation ht
  case claimLapse => exact h.execClaim ht
  case overlapExpiry => exact h.execOverlap ht
  case reserveTimerExpiry => exact h.act ht fun h => ite h.endTransfer h
  case deadTimeExpiry => exact h.act ht fun h => ite h.modXfer.tell h
  case generatorWaitExpiry => exact h.act ht fun h => ite (ite h.enterStage h.endTransfer) h
  case arrivalLimitExpiry => exact h.act ht fun h => ite h.endTransfer h
  case gbLossTimerExpiry => exact h.act ht fun h => ite h.withTsq.triggers h
  case startUpDelayEnd => exact h.act ht fun h => ite h.withTsq.armDead.armDead.judgeGbLoss.triggers h
  case readyChange => exact h.levelTaken ht h.modSlot readyChanged
  case startTimerExpiry => exact h.act ht fun h => ite h.failSlot h
  case syncWaitExpiry => exact h.act ht fun h => ite h.failSlot h
  case rampStepExpiry => exact h.act ht fun h => ite h.modSlot h
  case unloadLimitExpiry => exact h.act ht fun h => ite h.modSlot.demandSlotOpen h
  case cooldownExpiry => exact h.act ht fun h => ite h.setSlotState h
  case biasPeriodStart => exact h.act ht fun h => ite (frame h (by rfl)) h
  case biasHighTimeEnd => exact h.act ht fun h => ite (frame h (by rfl)) h
  case overloadTimerExpiry => exact h.act ht fun h => ite h.shedOne.setOverload h
  case underfrequencyTimerExpiry => exact h.act ht fun h => ite h.shedOne.setUf h
  case restoreIntervalEnd => exact h.act ht fun h => ite h.withLdm.seekRestore h
  case failureTimerExpiry => exact h.act ht fun h => ite h.failureExpired h
  case nonvolatileWriteCompletion => exact h.execWrite ht
  case resetInputAsserted => exact (heldInReset (k := s.control)).idle ht
  case deviceReset => exact idle (resetControl ..) ht
  case keyInputChange => exact h.levelTaken ht (h.frame (by rfl)) fun h => h.frame (by rfl)
  case keyChangeEffect => exact h.act ht fun h => ite h.keyEffect h
  case livenessLapse => exact h.execLapse ht
  case windowEnded => exact h.act ht fun h => h.writePort fun _ => ⟨rfl, rfl⟩
  case badRequest => exact h.act ht fun h => h.writePort fun _ => ⟨rfl, rfl⟩
  case badCheck => exact h.act ht fun h => h.writePort fun _ => ⟨rfl, rfl⟩
  case readRecord => exact h.reading ht
  case status => exact h.reading ht
  case liveness => exact h.reading ht
  case eventRead => exact h.asking ht readEvents
  case takeover => exact h.request ht fun h hadmitted => h.takeOver fun hp => by simp [admissionRefusal, hp] at hadmitted
  case release => exact h.asking ht releaseRole
  case hold => exact h.execHold ht
  case releaseHold => exact h.asking ht fun h => ite h.leaveHold h
  case step => exact h.asking ht fun h => h.withBus h.takeStep
  case service => exact h.execService ht
  case operateClose => exact h.execOperateClose ht
  case operateOpen => exact h.asking ht fun h => h.withBreaker h.portOpen
  case resetBreaker => exact h.asking ht fun h => h.withBreaker h.clearFlags
  case resetLockout => exact h.asking ht fun h => h.withBreaker h.resetLockout
  case transfer => exact h.execTransfer ht
  case cancelTransfer => exact h.asking ht fun h => h.withBus h.cancelTransfer
  case start => exact h.asking ht fun h => h.withSlot h.startSlot
  case stop => exact h.asking ht fun h => h.withSlot h.stopSlot
  case resetSlot => exact h.asking ht fun h => h.withSlot h.requestResetSlot
  case biasSet => exact h.asking ht fun h => h.withSlot h.biasSet
  case shed => exact h.asking ht shedRequest
  case restore => exact h.asking ht restoreRequest
  case block => exact h.asking ht blockRequest
  case unblock => exact h.asking ht unblockRequest
  case groupSelect => exact h.execGroupSelect ht
  case sequenceReset => exact h.asking ht sequenceReset
  case ackAttention => exact h.asking ht acknowledgeEvents
  case window => exact h.execWindow ht
  case settingRead => exact h.execSettingRead ht
  case settingWrite => exact h.execSettingWrite ht
  case curveBegin => exact h.execCurveBegin ht
  case curveEntry => exact h.asking ht curveEntry

/-- Every step keeps every promise. -/
theorem step {s t : State} (h : s.control.Meets π) (ht : step s = .next t) : t.control.Meets π := by
  unfold Machine.step at ht
  split at ht
  · have htick : s.tick.control = s.control := by unfold State.tick; split <;> rfl
    injection ht with ht
    subst ht
    rwa [htick]
  · next i rest _ => exact exec (s := { s with pending := rest }) h ht

end Sys2Proof.Machine.Control.Meets

namespace Sys2Proof.Machine

/-- Settles O56, by the roles' promise: a supervisor takes the role while no port is ACTIVE, and no port keeps its lapse
timer when it loses it. -/
theorem stepsKeepTheRolesSound : Obligations.StepsKeepTheRolesSound :=
  fun _ _ h ht => Control.Meets.step (π := .roles) h ht

/-- Settles O57, by the coils' promise: every write of a breaker record keeps its coils with its operation. -/
theorem stepsKeepTheCoilsSound : Obligations.StepsKeepTheCoilsSound :=
  fun _ _ h ht => Control.Meets.step (π := .coils) h ht

/-- Settles O58, by the queue's promise: an event appended and a cursor moved keep the queue sound. -/
theorem stepsKeepTheEventQueueSound : Obligations.StepsKeepTheEventQueueSound :=
  fun _ _ h ht => Control.Meets.step (π := .queue) h ht

/-- Settles O59, by the elements' promise: each element's step keeps its accumulators in bounds. -/
theorem stepsKeepTheElementsBounded : Obligations.StepsKeepTheElementsBounded :=
  fun _ _ h ht => Control.Meets.step (π := .elements) h ht

/-- Settles O60, by what device reset leaves. -/
theorem resetStateIsSound : Obligations.ResetStateIsSound :=
  have hmeets : ∀ π, State.reset.control.Meets π := fun _ => Control.Meets.resetControl ..
  ⟨hmeets .roles, hmeets .coils, hmeets .queue, hmeets .elements, rfl⟩

end Sys2Proof.Machine
end

section
/-! The operations of the commands that change nothing of what only a command changes: timers, synchronism, loads,
generators and transfers. -/

namespace Sys2Proof.Machine.Control

/-! ## Measurement -/

@[simp] theorem channelEvent_held (e : Sensed) (c : Channel) (old : ChannelState) (k : Control) :
    (k.channelEvent e c old).held = k.held := by
  unfold Control.channelEvent
  dsimp only
  split
  · split <;> rfl
  · split <;> rfl
  · rfl

@[simp] theorem edgeDelivered_held (e : Sensed) (c : Channel) (old : ChannelState) (kind : EdgeKind) (k : Control) :
    (k.edgeDelivered e c old kind).held = k.held := by
  rw [← channelEvent_held e c old k]
  unfold Control.edgeDelivered
  cases kind
  all_goals
    dsimp only
    split
    · split <;> rfl
    · split <;> rfl

/-! ## Generators and loads -/

@[simp] theorem barSlot_held (n : Slot) (k : Control) : (k.barSlot n).held = k.held := modSlot_held k n _ fun _ => rfl

@[simp] theorem portDemand_held (n : Slot) (k : Control) : (k.portDemand n).held = k.held :=
  modSlot_held k n _ fun _ => rfl

@[simp] theorem deferStop_held (n : Slot) (k : Control) : (k.deferStop n).held = k.held :=
  modSlot_held k n _ fun _ => rfl

@[simp] theorem rampStep_held (e : Sensed) (n : Slot) (k : Control) : (k.rampStep e n).held = k.held :=
  modSlot_held k n _ fun _ => rfl

@[simp] theorem unloadLimit_held (e : Sensed) (n : Slot) (k : Control) : (k.unloadLimit e n).held = k.held := by
  simp [Control.unloadLimit]

@[simp] theorem putSetPoint_held (d : Nat) (n : Slot) (k : Control) : (k.putSetPoint d n).held = k.held :=
  modSlot_held k n _ fun _ => rfl

@[simp] theorem startSlot_held (e : Sensed) (n : Slot) (k : Control) : (k.startSlot e n).1.held = k.held := by
  unfold Control.startSlot
  split
  · simp
  · dsimp only; split <;> simp
  · dsimp only; split <;> simp
  · dsimp only; split <;> simp
  · dsimp only; split <;> simp
  · dsimp only; split <;> simp
  all_goals rfl

@[simp] theorem stopSlot_held (e : Sensed) (n : Slot) (k : Control) : (k.stopSlot e n).1.held = k.held := by
  unfold Control.stopSlot
  dsimp only
  split
  · split <;> simp
  · simp
  · simp
  · split <;> simp
  all_goals simp

@[simp] theorem requestResetSlot_held (e : Sensed) (n : Slot) (k : Control) :
    (k.requestResetSlot e n).1.held = k.held := by
  unfold Control.requestResetSlot
  split
  · rfl
  · simp [Control.clearFault]

@[simp] theorem biasSet_held (d : Nat) (n : Slot) (k : Control) : (k.biasSet d n).1.held = k.held := by
  unfold Control.biasSet
  split
  · rfl
  · split
    · rfl
    · simp

@[simp] theorem overloadExpired_held (e : Sensed) (k : Control) : (k.overloadExpired e).held = k.held := by
  simp [Control.overloadExpired]

@[simp] theorem ufExpired_held (e : Sensed) (st : UfStage) (k : Control) : (k.ufExpired e st).held = k.held := by
  simp [Control.ufExpired]

@[simp] theorem setRestoreTimer_held (t : Timer) (k : Control) : (k.setRestoreTimer t).held = k.held := rfl

@[simp] theorem shedRequest_held (e : Sensed) (mask : Byte) (k : Control) : (k.shedRequest e mask).1.held = k.held :=
  forEach_held _ _ _ fun _ _ => shed_held ..

@[simp] theorem restoreRequest_held (e : Sensed) (mask : Byte) (k : Control) :
    (k.restoreRequest e mask).1.held = k.held := by
  have hwanted : ∀ fs, (forEach fs Control.wantRestore k.resumePacing).held = k.held := fun fs =>
    forEach_held fs Control.wantRestore k.resumePacing fun _ _ => rfl
  exact (seekRestore_held e _).trans (hwanted _)

@[simp] theorem blockRequest_held (mask : Byte) (k : Control) : (k.blockRequest mask).1.held = k.held :=
  forEach_held _ _ _ fun _ _ => setBlock_held ..

@[simp] theorem unblockRequest_held (mask : Byte) (k : Control) : (k.unblockRequest mask).1.held = k.held :=
  forEach_held _ _ _ fun _ _ => setBlock_held ..

/-! ## Events -/

@[simp] theorem setCursor_held (k : Control) (p : Port) (n : Word16) : (k.setCursor p n).held = k.held := rfl

@[simp] theorem readEvents_held (p : Port) (n : Nat) (k : Control) : (k.readEvents p n).1.held = k.held := by
  unfold Control.readEvents
  split <;> rfl

/-! ## Settings -/

@[simp] theorem ratingWritten_held (e : Sensed) (old : Nat) (k : Control) : (k.ratingWritten e old).held = k.held := by
  unfold Control.ratingWritten
  split <;> simp

@[simp] theorem settingWritten_held (e : Sensed) (r : ItemRef) (old : Nat) (k : Control) :
    (k.settingWritten e r old).held = k.held := by
  unfold Control.settingWritten
  split
  · simp
  · simp
  · rfl
  · simp
  · simp
  · simp
  · simp [Control.sortShedList]
  · rfl
  · split <;> rfl

/-! ## Breakers -/

@[simp] theorem overlapExpire_held (e : Sensed) (k : Control) (o : OverlapTimer) :
    (k.overlapExpire e o).held = k.held := by
  unfold Control.overlapExpire
  dsimp only
  rw [tell_held, recordNoCause_held, forEach_held _ _ _ fun _ _ => bcuTrip_held ..]
  rfl

@[simp] theorem portClose_held (e : Sensed) (p : Port) (b : Breaker) (k : Control) :
    (k.portClose e p b).1.held = k.held := closeDemand_held ..

@[simp] theorem portOpen_held (e : Sensed) (p : Port) (b : Breaker) (k : Control) :
    (k.portOpen e p b).1.held = k.held := bcuOpen_held ..

@[simp] theorem resetLockout_held (e : Sensed) (p : Port) (b : Breaker) (k : Control) :
    (k.resetLockout e p b).1.held = k.held := by
  unfold Control.resetLockout
  split
  · rfl
  · split
    · rfl
    · simp [Control.clearLockout]

/-! ## Transfers -/

@[simp] theorem armDead_held (k : Control) (l : Bus) : (k.armDead l).held = k.held := by
  unfold Control.armDead
  split <;> rfl

@[simp] theorem requestTransfer_held (e : Sensed) (l : Bus) (t : Target) (m : Option Mode) (k : Control) :
    (k.requestTransfer e l t m).1.held = k.held := by
  unfold Control.requestTransfer
  split <;> simp

@[simp] theorem cancelTransfer_held (e : Sensed) (l : Bus) (k : Control) : (k.cancelTransfer e l).1.held = k.held := by
  unfold Control.cancelTransfer
  dsimp only
  split
  · rfl
  · split <;> simp

@[simp] theorem takeStep_held (e : Sensed) (l : Bus) (k : Control) : (k.takeStep e l).1.held = k.held := by
  unfold Control.takeStep
  split
  · rfl
  split
  · rfl
  split <;> simp

@[simp] theorem resetTransfers_held (e : Sensed) (k : Control) : (k.resetTransfers e).held = k.held := by
  refine forEach_held _ _ _ fun l k => ?_
  split <;> simp

@[simp] theorem resetAttempts_held (e : Sensed) (k : Control) : (k.resetAttempts e).held = k.held := by
  refine forEach_held _ _ _ fun n k => ?_
  split
  · split <;> simp
  · rfl

@[simp] theorem resetHolders_held (e : Sensed) (c : ClaimBus) (n : Nat) (k : Control) :
    (Control.resetHolders e c n k).held = k.held := by
  induction n generalizing k with
  | zero => rfl
  | succ n ih =>
    unfold Control.resetHolders
    split
    · rw [ih, endHolder_held]
    · rfl

@[simp] theorem resetClaim_held (e : Sensed) (c : ClaimBus) (k : Control) : (k.resetClaim e c).held = k.held := by
  unfold Control.resetClaim
  dsimp only
  rw [forEach_held _ _ _ fun _ _ => endWaiting_held .., resetHolders_held]

@[simp] theorem releaseAll_held (k : Control) : k.releaseAll.held = k.held := by
  refine forEach_held _ _ _ fun b k => ?_
  split <;> simp

@[simp] theorem sequenceReset_held (e : Sensed) (p : Port) (k : Control) : (k.sequenceReset e p).1.held = k.held := by
  unfold Control.sequenceReset Control.resetPacing
  dsimp only
  rw [held_ldm, forEach_held _ _ _ fun _ _ => resetSlotSequence_held .., releaseAll_held,
    forEach_held _ _ _ fun _ _ => resetClaim_held .., resetTransfers_held, resetAttempts_held, record_held]

/-! ## Requests that name a breaker, a bus or a slot -/

theorem withBreaker_held {x : Byte} {owner : Breaker → Control → Control × Response} {k : Control}
    (h : ∀ b, (owner b k).1.held = k.held) : (withBreaker x owner k).1.held = k.held := by
  unfold withBreaker
  split
  · exact h _
  · rfl

theorem withBus_held {x : Byte} {owner : Bus → Control → Control × Response} {k : Control}
    (h : ∀ l, (owner l k).1.held = k.held) : (withBus x owner k).1.held = k.held := by
  unfold withBus
  split
  · exact h _
  · rfl

theorem withSlot_held {x : Byte} {owner : Slot → Control → Control × Response} {k : Control}
    (h : ∀ n, (owner n k).1.held = k.held) : (withSlot x owner k).1.held = k.held := by
  unfold withSlot
  split
  · exact h _
  · rfl

end Sys2Proof.Machine.Control
end

section
/-! The parts of the blocks' state that only the commands named for them change (the whole part's frame): contacts, observed
states, flags, hold, READY, bias, the curve buffer, keys, settings and the stored image. -/

namespace Sys2Proof.Machine

/-- What only the commands named for it change. -/
inductive Part where
  | contacts (b : Breaker) | observed (b : Breaker) | flags (b : Breaker) | hold | ready (n : Slot) | bias | buffer
  | key (x : Key) | settings | active | service | curves | image

/-- The commands named for a part. -/
inductive Touches : Instr → Part → Prop where
  | contactChange {b x y} : Touches (.contactCombinationChange b x y) (.contacts b)
  | contactSettle {b} : Touches (.contactSettle b) (.observed b)
  | operationDeadline {b} : Touches (.operationDeadline b) (.flags b)
  | resetBreaker {p x b} : Touches (.resetBreaker p x) (.flags b)
  | hold {p} : Touches (.hold p) .hold
  | releaseHold {p} : Touches (.releaseHold p) .hold
  | localKey : Touches (.keyChangeEffect .localKey) .hold
  | readyChange {n x} : Touches (.readyChange n x) (.ready n)
  | biasPeriod : Touches .biasPeriodStart .bias
  | biasHigh {n} : Touches (.biasHighTimeEnd n) .bias
  | curveBegin {p x} : Touches (.curveBegin p x) .buffer
  | curveEntryBuffer {p x y} : Touches (.curveEntry p x y) .buffer
  | keyInput {x level} : Touches (.keyInputChange x level) (.key x)
  | keyEffect {x} : Touches (.keyChangeEffect x) (.key x)
  | settingWrite {p x y v} : Touches (.settingWrite p x y v) .settings
  | groupSelect {p x} : Touches (.groupSelect p x) .active
  | service {p x y} : Touches (.service p x y) .service
  | curveEntryTable {p x y} : Touches (.curveEntry p x y) .curves
  | writeCompletion {ok} : Touches (.nonvolatileWriteCompletion ok) .image

/-- A part stands from one state of the blocks to another. -/
def Part.Same (k k' : Control) : Part → Prop
  | .contacts b =>
    (k'.breaker b).closedMade = (k.breaker b).closedMade ∧ (k'.breaker b).openMade = (k.breaker b).openMade
  | .observed b => (k'.breaker b).observed = (k.breaker b).observed ∧ (k'.breaker b).opCount = (k.breaker b).opCount
  | .flags b =>
    (k'.breaker b).closeBlocked = (k.breaker b).closeBlocked ∧ (k'.breaker b).openFailed = (k.breaker b).openFailed
  | .hold => k'.tsq.hold = k.tsq.hold
  | .ready n => (k'.slot n).ready = (k.slot n).ready
  | .bias => k'.gsc.bias = k.gsc.bias
  | .buffer => k'.pru.buffer = k.pru.buffer
  | .key x => k'.cpi.keys.get x = k.cpi.keys.get x
  | .settings => k'.common = k.common ∧ k'.sst.working.groups = k.sst.working.groups
  | .active => k'.sst.working.active = k.sst.working.active
  | .service => k'.sst.working.outOfService = k.sst.working.outOfService
  | .curves => k'.sst.working.curves = k.sst.working.curves
  | .image => k'.sst.image = k.sst.image

namespace Part.Same

variable {x : Part} {e : Sensed} {k0 k k' : Control}

/-! ## The named updates -/

/-- What changes nothing of the held part changes no part of it. -/
theorem held (h : x.Same k0 k) (hk : k'.held = k.held) : x.Same k0 k' := by
  cases x
  case contacts b =>
    have hb := Control.breaker_of_held hk b
    simp only [BreakerRec.held_eq, BreakerHeld.mk.injEq] at hb
    exact ⟨hb.1.trans h.1, hb.2.1.trans h.2⟩
  case observed b =>
    have hb := Control.breaker_of_held hk b
    simp only [BreakerRec.held_eq, BreakerHeld.mk.injEq] at hb
    exact ⟨hb.2.2.2.2.1.trans h.1, hb.2.2.2.2.2.2.2.trans h.2⟩
  case flags b =>
    have hb := Control.breaker_of_held hk b
    simp only [BreakerRec.held_eq, BreakerHeld.mk.injEq] at hb
    exact ⟨hb.2.2.2.2.2.1.trans h.1, hb.2.2.2.2.2.2.1.trans h.2⟩
  case hold => exact (Control.hold_of_held hk).trans h
  case ready n => exact (Control.ready_of_held hk n).trans h
  case bias => exact (Control.bias_of_held hk).trans h
  case buffer => exact (Control.buffer_of_held hk).trans h
  case key y => exact (congrArg (fun c : Cpi => c.keys.get y) (Control.cpi_of_held hk)).trans h
  case settings => exact ⟨(Control.common_of_held hk).trans h.1, (Control.groups_of_held hk).trans h.2⟩
  case active => exact (Control.active_of_held hk).trans h
  case service => exact (Control.outOfServiceFlags_of_held hk).trans h
  case curves => exact (Control.curves_of_held hk).trans h
  case image => exact (Control.image_of_held hk).trans h

theorem refl : x.Same k k := by
  cases x <;> first | exact ⟨rfl, rfl⟩ | exact rfl

theorem trans (h : x.Same k0 k) (h' : x.Same k k') : x.Same k0 k' := by
  cases x
  case contacts | observed | flags | settings => exact ⟨h'.1.trans h.1, h'.2.trans h.2⟩
  all_goals exact Eq.trans h' h

theorem of_held (hk : k'.held = k.held) : x.Same k k' := refl.held hk

theorem ite {c : Prop} [Decidable c] (h : x.Same k0 k) (h' : x.Same k0 k') : x.Same k0 (if c then k else k') := by
  split <;> assumption

/-- A breaker record written: contacts, observed state and count, and flags change there alone, if the write changes them. -/
theorem modBreaker {b : Breaker} {f : BreakerRec → BreakerRec} (h : x.Same k0 k)
    (hc : x = .contacts b → ∀ r, (f r).closedMade = r.closedMade ∧ (f r).openMade = r.openMade)
    (ho : x = .observed b → ∀ r, (f r).observed = r.observed ∧ (f r).opCount = r.opCount)
    (hf : x = .flags b → ∀ r, (f r).closeBlocked = r.closeBlocked ∧ (f r).openFailed = r.openFailed) :
    x.Same k0 (k.modBreaker b f) := by
  cases x
  case contacts c =>
    by_cases hbc : c = b
    · subst hbc
      rw [Part.Same, Control.breaker_modBreaker_same, (hc rfl _).1, (hc rfl _).2]
      exact h
    · rw [Part.Same, Control.breaker_modBreaker_other k f hbc]; exact h
  case observed c =>
    by_cases hbc : c = b
    · subst hbc
      rw [Part.Same, Control.breaker_modBreaker_same, (ho rfl _).1, (ho rfl _).2]
      exact h
    · rw [Part.Same, Control.breaker_modBreaker_other k f hbc]; exact h
  case flags c =>
    by_cases hbc : c = b
    · subst hbc
      rw [Part.Same, Control.breaker_modBreaker_same, (hf rfl _).1, (hf rfl _).2]
      exact h
    · rw [Part.Same, Control.breaker_modBreaker_other k f hbc]; exact h
  all_goals exact h

/-- A port's context written changes no part. -/
theorem modPort {p : Port} {f : PortRec → PortRec} (h : x.Same k0 k) : x.Same k0 (k.modPort p f) := by
  cases x <;> exact h

/-- Working data, image, write and unstored indications replaced: settings, active group, service flags, curve tables and
image change, if these do. -/
theorem withSst {d : Sst} (h : x.Same k0 k)
    (hs : x = .settings → d.working.common = k.sst.working.common ∧ d.working.groups = k.sst.working.groups)
    (ha : x = .active → d.working.active = k.sst.working.active)
    (ho : x = .service → d.working.outOfService = k.sst.working.outOfService)
    (hc : x = .curves → d.working.curves = k.sst.working.curves)
    (hi : x = .image → d.image = k.sst.image) : x.Same k0 ({ k with sst := d } : Control) := by
  cases x
  case settings => exact ⟨(hs rfl).1.trans h.1, (hs rfl).2.trans h.2⟩
  case active => exact (ha rfl).trans h
  case service => exact (ho rfl).trans h
  case curves => exact (hc rfl).trans h
  case image => exact (hi rfl).trans h
  all_goals exact h

theorem startWrite {kind : WriteKind} (h : x.Same k0 k) : x.Same k0 (k.startWrite e kind) :=
  h.withSst (fun _ => ⟨rfl, rfl⟩) (fun _ => rfl) (fun _ => rfl) (fun _ => rfl) (fun _ => rfl)

theorem putBuffer {b : CurveBuffer} (h : x.Same k0 k) (hx : x ≠ .buffer) : x.Same k0 (k.putBuffer b) := by
  cases x
  case buffer => exact absurd rfl hx
  all_goals exact h

theorem withBias {b : Bias} (h : x.Same k0 k) (hx : x ≠ .bias) :
    x.Same k0 ({ k with gsc := { k.gsc with bias := b } } : Control) := by
  cases x
  case bias => exact absurd rfl hx
  all_goals exact h

theorem withHold {b : Bool} (h : x.Same k0 k) (hx : x ≠ .hold) :
    x.Same k0 ({ k with tsq := { k.tsq with hold := b } } : Control) := by
  cases x
  case hold => exact absurd rfl hx
  all_goals exact h

theorem withStartUp {t : Timer} {b : Bool} (h : x.Same k0 k) :
    x.Same k0 ({ k with tsq := { k.tsq with startUpDelay := t, startUpEnded := b } } : Control) := by
  cases x <;> exact h

theorem modKey {y : Key} {f : KeyRec → KeyRec} (h : x.Same k0 k) (hx : x ≠ .key y) : x.Same k0 (k.modKey y f) := by
  cases x
  case key z =>
    have hz : z ≠ y := fun hzy => hx (hzy ▸ rfl)
    exact (PerKey.get_modify_other _ _ hz).trans h
  all_goals exact h

theorem setReady {n : Slot} {level : Bool} (h : x.Same k0 k) (hx : x ≠ .ready n) : x.Same k0 (k.setReady n level) := by
  cases x
  case ready m =>
    have hm : m ≠ n := fun hmn => hx (hmn ▸ rfl)
    rw [Part.Same, Control.setReady, Control.slot_modSlot_other k _ hm]
    exact h
  all_goals exact h

/-! ## The operations of the commands named for a part -/

theorem reportEnd {b : Breaker} {op : Operation} {fin : OpEnd} (h : x.Same k0 k) : x.Same k0 (k.reportEnd e b op fin) :=
  h.held (Control.reportEnd_held ..)

theorem completeOperation {b : Breaker} {op : Operation} (h : x.Same k0 k) (hx : x ≠ .observed b) :
    x.Same k0 (k.completeOperation e b op) := by
  have hwritten := h.modBreaker (b := b)
    (f := fun r => { r.endOperation op with opCount := if r.opCount < 65535 then r.opCount + 1 else r.opCount })
    (fun _ r => by unfold BreakerRec.endOperation; split <;> exact ⟨rfl, rfl⟩) (fun ho => absurd ho hx)
    (fun _ r => by unfold BreakerRec.endOperation; split <;> exact ⟨rfl, rfl⟩)
  exact (hwritten.held (Control.record_held ..)).reportEnd

theorem failOperation {b : Breaker} {op : Operation} (h : x.Same k0 k) (hx : x ≠ .flags b) :
    x.Same k0 (k.failOperation e b op) := by
  have hwritten := h.modBreaker (b := b)
    (f := fun r => if op.kind = .close then { r.endOperation op with closeBlocked := true }
      else { r.endOperation op with openFailed := true })
    (fun _ r => by unfold BreakerRec.endOperation; split <;> split <;> exact ⟨rfl, rfl⟩)
    (fun _ r => by unfold BreakerRec.endOperation; split <;> split <;> exact ⟨rfl, rfl⟩) (fun hf => absurd hf hx)
  exact (hwritten.held (Control.record_held ..)).reportEnd

theorem tellObserved {b : Breaker} {new : Observed} {first : Bool} (h : x.Same k0 k) :
    x.Same k0 (k.tellObserved e b new first) := by
  have hformed : x.Same k0 (if allSettled k then ({ k with tiu := { k.tiu with formed := true } } : Control) else k) := by
    refine ite ?_ h
    cases x <;> exact h
  exact (hformed.held (Control.tell_held ..)).held (Control.recompute_held ..)

theorem judgeObserved {b : Breaker} {new : Observed} {first : Bool} (h : x.Same k0 k) (hx : x ≠ .observed b) :
    x.Same k0 (k.judgeObserved e b new first) := by
  unfold Control.judgeObserved
  split
  · exact ite (h.completeOperation hx) h
  · refine ite (h.held (Control.uncommandedChange_held ..)) ?_
    exact ite (h.held (by simp)) (h.held (by simp))

theorem settleContacts {b : Breaker} (h : x.Same k0 k) (hx : x ≠ .observed b) : x.Same k0 (k.settleContacts e b) := by
  have hoff := h.modBreaker (b := b) (f := fun r => { r with settle := .off }) (fun _ _ => ⟨rfl, rfl⟩)
    (fun _ _ => ⟨rfl, rfl⟩) (fun _ _ => ⟨rfl, rfl⟩)
  have hobserved := fun new => hoff.modBreaker (b := b) (f := fun r => { r with observed := new, settled := true })
    (fun _ _ => ⟨rfl, rfl⟩) (fun ho => absurd ho hx) (fun _ _ => ⟨rfl, rfl⟩)
  exact ite hoff ((hobserved _).tellObserved.judgeObserved hx)

theorem clearFlags {b : Breaker} (h : x.Same k0 k) (hx : x ≠ .flags b) : x.Same k0 (k.clearFlags b).1 :=
  h.modBreaker (fun _ _ => ⟨rfl, rfl⟩) (fun _ _ => ⟨rfl, rfl⟩) (fun hf => absurd hf hx)

theorem enterHold {p : Port} (h : x.Same k0 k) (hx : x ≠ .hold) : x.Same k0 (k.enterHold e p) := by
  have hfrozen : ∀ k : Control, ((k.freezeStages e).holdEnteredGsc e).held = k.held := by simp
  exact (((h.withHold (b := true) hx).held (Control.record_held ..)).held (hfrozen _)).held (Control.held_ldm ..)

theorem leaveHold {c : Cause} (h : x.Same k0 k) (hx : x ≠ .hold) : x.Same k0 (k.leaveHold e c) :=
  (((h.withHold (b := false) hx).held (Control.record_held ..)).held (Control.withdrawSteps_held ..)).held
    (Control.tell_held ..)

theorem keyEffect {y : Key} (h : x.Same k0 k) (hx : x ≠ .key y) (hhold : y = .localKey → x ≠ .hold) :
    x.Same k0 (k.keyEffect e y) := by
  have hkey := h.modKey (f := fun r => { r with level := r.input, timing := .off, fromReset := false }) hx
  have htaken := ite (c := (k.cpi.keys.get y).fromReset = true) hkey (hkey.held (Control.record_held (e := e)
    (kind := .roleChange) (subject := .port .cpP) (cause := Key.cause y)
    (value := (k.cpi.keys.get y).input.toNat) ..))
  by_cases hy : y = .localKey
  · exact ite (htaken.leaveHold (hhold hy)) htaken
  · unfold Control.keyEffect
    simp only [hy, decide_false, Bool.false_and, Bool.false_eq_true, if_false]
    exact htaken

theorem readyChanged {n : Slot} {level : Bool} (h : x.Same k0 k) (hx : x ≠ .ready n) :
    x.Same k0 (k.readyChanged e n level) :=
  ite ((h.setReady hx).held (Control.judgeStarting_held ..)) ((h.setReady hx).held (Control.readyLost_held ..))

theorem writePending (h : x.Same k0 k) : x.Same k0 (k.writePending e) := by
  unfold Control.writePending
  split
  · exact h
  · exact startWrite (h.withSst (fun _ => ⟨rfl, rfl⟩) (fun _ => rfl) (fun _ => rfl) (fun _ => rfl) (fun _ => rfl))

theorem completeWrite {w : Write} {verified : Bool} (h : x.Same k0 k) (hx : x ≠ .image) :
    x.Same k0 (k.completeWrite e w verified) := by
  have hstored : x.Same k0 ({ k with sst := { k.sst.stored w with write := none } } : Control) :=
    h.withSst (fun _ => ⟨rfl, rfl⟩) (fun _ => rfl) (fun _ => rfl) (fun _ => rfl) (fun hi => absurd hi hx)
  have hfailed : x.Same k0 ({ k with sst := { k.sst with write := none } } : Control) :=
    h.withSst (fun _ => ⟨rfl, rfl⟩) (fun _ => rfl) (fun _ => rfl) (fun _ => rfl) (fun _ => rfl)
  have hjudged : x.Same k0 (if verified then ({ k with sst := { k.sst.stored w with write := none } } : Control)
      else ({ k with sst := { k.sst with write := none } } : Control).storeFaults e w.kind) :=
    ite hstored (hfailed.held (Control.storeFaults_held ..))
  exact hjudged.writePending

theorem selectGroup {p : Port} {g : GroupNo} (h : x.Same k0 k) (hx : x ≠ .active) :
    x.Same k0 (k.selectGroup e p g).1 := by
  have hput : x.Same k0 (k.putWorking { k.sst.working with active := g }) :=
    h.withSst (fun _ => ⟨rfl, rfl⟩) (fun ha => absurd ha hx) (fun _ => rfl) (fun _ => rfl) (fun _ => rfl)
  unfold Control.selectGroup
  split
  · exact h
  · split
    · exact h
    · exact (hput.held (Control.record_held ..)).startWrite

theorem service {b : Breaker} {set : Bool} (h : x.Same k0 k) (hx : x ≠ .service) : x.Same k0 (k.service e set b).1 := by
  have hput : x.Same k0 (k.putWorking { k.sst.working with outOfService := k.sst.working.outOfService.set b set }) :=
    h.withSst (fun _ => ⟨rfl, rfl⟩) (fun _ => rfl) (fun ho => absurd ho hx) (fun _ => rfl) (fun _ => rfl)
  unfold Control.service
  split
  · exact h
  · split
    · exact h
    · exact ((hput.held (Control.record_held ..)).startWrite.held (Control.recompute_held ..)).held (Control.tell_held ..)

theorem curveEntry {p : Port} {c : CurveEntry} (h : x.Same k0 k) (hb : x ≠ .buffer) (hc : x ≠ .curves) :
    x.Same k0 (k.curveEntry e p c).1 := by
  have hput : ∀ k, x.Same k0 k → ∀ t, x.Same k0 (k.putWorking { k.sst.working with curves := t }) := fun _ h _ =>
    h.withSst (fun _ => ⟨rfl, rfl⟩) (fun _ => rfl) (fun _ => rfl) (fun hx => absurd hx hc) (fun _ => rfl)
  unfold Control.curveEntry Control.validateCurve
  dsimp only
  split
  · exact h
  split
  · exact h
  split
  · exact h.putBuffer hb
  split
  · exact h
  split
  · exact ((hput _ (h.putBuffer hb) _).held (Control.record_held ..)).startWrite
  · exact h.putBuffer hb


/-- What the blocks do at the write of one of their settings touches no part. -/
theorem settingWritten {r : ItemRef} {old : Nat} (h : x.Same k0 k) : x.Same k0 (k.settingWritten e r old) :=
  h.held (Control.settingWritten_held ..)

theorem requestWrite {p : Port} {r : ItemRef} {v : Nat} (h : x.Same k0 k) (hx : x ≠ .settings) :
    x.Same k0 (k.requestWrite e p r v).1 := by
  obtain ⟨hactive, hservice, hcurves⟩ : (withValue k r v).active = k.sst.working.active ∧
      (withValue k r v).outOfService = k.sst.working.outOfService ∧
      (withValue k r v).curves = k.sst.working.curves := by
    unfold withValue StoreData.writeItem
    split <;> exact ⟨rfl, rfl, rfl⟩
  have hput : x.Same k0 (k.putWorking (withValue k r v)) :=
    h.withSst (fun hs => absurd hs hx) (fun _ => hactive) (fun _ => hservice) (fun _ => hcurves) (fun _ => rfl)
  unfold Control.requestWrite
  split
  · exact h
  · exact (hput.held (Control.record_held ..)).startWrite.settingWritten

/-! ## Commands -/

theorem run {f : Control → Control} {s : State} {e : Sensed} (hf : ∀ k, x.Same k (f k)) :
    x.Same s.control (s.control.run e f) := by
  have hbegun : x.Same s.control s.control.begun := of_held (Control.begun_held _)
  exact (hbegun.trans (hf _)).held (Control.settle_held ..)

theorem act {s t : State} {f : Control → Control} (ht : s.act f = .next t) (hf : ∀ k, x.Same k (f k)) :
    x.Same s.control t.control := by
  unfold State.act at ht
  split at ht
  all_goals
    injection ht with ht
    subst ht
  · exact refl
  · exact run hf

theorem actSensed {s t : State} {e : Sensed} {f : Control → Control} (ht : s.actSensed e f = .next t)
    (hf : ∀ k, x.Same k (f k)) : x.Same s.control t.control := by
  unfold State.actSensed at ht
  split at ht
  all_goals
    injection ht with ht
    subst ht
  · exact refl
  · exact run hf

theorem request {s t : State} {p : Port} {c : RequestClass} {owner : Control → Control × Response}
    (ht : s.request p c owner = .next t) (howner : ∀ k, x.Same k (owner k).1) : x.Same s.control t.control := by
  refine act ht fun k => ?_
  have hasked : x.Same k (k.reloadLapse s.sensed p) := ite refl.modPort refl
  have howned : x.Same k (owner (k.reloadLapse s.sensed p)).1 := hasked.trans (howner _)
  unfold Control.judgeRequest
  dsimp only
  split
  · exact hasked.modPort
  · exact howned.modPort

end Part.Same
end Sys2Proof.Machine
end

section
/-! Every command but the resets changes only the parts it is named for. -/

namespace Sys2Proof.Machine.Part.Same

variable {x : Part} {s t : State}

/-- A command without effect. -/
theorem idle (ht : Host.Outcome.next (φ := Fault) (ρ := Refusal) s = .next t) : x.Same s.control t.control := by
  injection ht with ht
  subst ht
  exact refl

/-- A command that takes an input level, outside reset. -/
theorem levelTaken {c : Prop} [Decidable c] {s' : State} {f : Control → Control} (hr : s.inReset = false)
    (ht : (if c then .next s else if s.inReset then .next s' else s.act f) = Host.Outcome.next t)
    (hf : ∀ k, x.Same k (f k)) : x.Same s.control t.control := by
  rw [hr] at ht
  split at ht
  · exact idle ht
  · exact act ht hf

/-- A request that only reads. -/
theorem reading {p : Port} {c : RequestClass} {answer : Control → Response}
    (ht : (s.request p c fun k => (k, answer k)) = .next t) : x.Same s.control t.control := request ht fun _ => refl

/-- An expiry that acts if it is due, and then on nothing that a command is named for. -/
theorem expiry {c : Control → Prop} [DecidablePred c] {f : Control → Control}
    (ht : (s.act fun k => if c k then f k else k) = .next t) (hf : ∀ k, (f k).held = k.held) :
    x.Same s.control t.control := act ht fun k => ite (of_held (hf k)) refl

/-- A request whose owner touches nothing that a command is named for. -/
theorem asking {p : Port} {c : RequestClass} {owner : Control → Control × Response}
    (ht : s.request p c owner = .next t) (howner : ∀ k, (owner k).1.held = k.held) : x.Same s.control t.control :=
  request ht fun k => of_held (howner k)

/-! ## Commands judged by more than one check -/

theorem tell {k0 k : Control} {ns : List Notice} (h : x.Same k0 k) : x.Same k0 (k.tell ns) :=
  h.held (Control.tell_held ..)

theorem frameDelivered {k0 k : Control} {e : Sensed} {fresh first : Bool} (h : x.Same k0 k) :
    x.Same k0 (Control.frameDelivered e fresh first k) := by
  have htold : x.Same k0 ((k.recordKind e .measurementFresh).tell stalenessNotices) :=
    tell (h.held (Control.recordKind_held ..))
  have hfresh := ite (c := fresh = true) htold h
  exact tell (ite hfresh.withStartUp hfresh)

theorem execMeasurement {bytes : List Byte} {extraBits : Nat}
    (ht : execMeasurementFrame bytes extraBits s = .next t) : x.Same s.control t.control := by
  unfold execMeasurementFrame at ht
  dsimp only at ht
  split at ht
  · exact actSensed ht fun k => refl.frameDelivered
  · exact idle ht

theorem execWatchdog (ht : execFrameWatchdogExpiry s = .next t) : x.Same s.control t.control := by
  unfold execFrameWatchdogExpiry at ht
  dsimp only at ht
  split at ht
  · exact actSensed ht fun k => ite (of_held rfl) refl
  · exact idle ht

theorem execPulse {c : Channel} (ht : execPulseDiscarded c s = .next t) : x.Same s.control t.control := by
  unfold execPulseDiscarded at ht
  dsimp only at ht
  split at ht
  · split at ht
    · exact actSensed ht fun _ => refl
    · exact idle ht
  · exact idle ht

theorem execEdge {c : Channel} (ht : execQualifiedEdge c s = .next t) : x.Same s.control t.control := by
  unfold execQualifiedEdge at ht
  dsimp only at ht
  split at ht
  · split at ht
    · exact idle ht
    · exact actSensed ht fun k => of_held (Control.edgeDelivered_held ..)
  · exact idle ht

theorem execLastEdge {c : Channel} (ht : execLastEdgeTimerExpiry c s = .next t) : x.Same s.control t.control := by
  unfold execLastEdgeTimerExpiry at ht
  dsimp only at ht
  split at ht
  · exact actSensed ht fun k => of_held (Control.channelEvent_held ..)
  · exact idle ht

theorem execAttempt {n : AttemptNo} (ht : execAttemptDeadline n s = .next t) : x.Same s.control t.control := by
  refine act ht fun k => ?_
  split
  · exact ite (of_held (Control.endAttempt_held ..)) refl
  · exact refl

theorem execOperation {b : Breaker} (ht : execOperationDeadline b s = .next t) (hx : x ≠ .flags b) :
    x.Same s.control t.control := by
  refine act ht fun k => ?_
  split
  · exact ite (refl.failOperation hx) refl
  · exact refl

theorem execClaim {c : ClaimBus} (ht : execClaimLapse c s = .next t) : x.Same s.control t.control := by
  refine act ht fun k => ?_
  split
  · exact ite (of_held (Control.endHolder_held ..)) refl
  · exact refl

theorem execOverlap {c : Channel} (ht : execOverlapExpiry c s = .next t) : x.Same s.control t.control := by
  refine act ht fun k => ?_
  split
  · exact of_held (Control.overlapExpire_held ..)
  · exact refl

theorem execGeneratorWait {l : Bus} (ht : execGeneratorWaitExpiry l s = .next t) : x.Same s.control t.control :=
  act ht fun _ => ite (ite (of_held (Control.enterStage_held ..)) (of_held (Control.endTransfer_held ..))) refl

theorem execStartUp (ht : execStartUpDelayEnd s = .next t) : x.Same s.control t.control := by
  refine act ht fun k => ite ?_ refl
  have hended := (refl (x := x) (k := k)).withStartUp (t := .off) (b := true)
  exact hended.held (by simp)

theorem execWrite {verified : Bool} (ht : execNonvolatileWriteCompletion verified s = .next t) (hx : x ≠ .image) :
    x.Same s.control t.control := by
  refine act ht fun k => ?_
  split
  · exact refl.completeWrite hx
  · exact refl

theorem execHold {p : Port} (ht : execHold p s = .next t) (hx : x ≠ .hold) : x.Same s.control t.control := by
  refine request ht fun k => ?_
  split
  · exact refl
  split
  · exact refl
  · exact refl.enterHold hx

theorem execService {p : Port} {b flag : Byte} (ht : execService p b flag s = .next t) (hx : x ≠ .service) :
    x.Same s.control t.control := by
  refine request ht fun k => ?_
  unfold withBreaker
  split
  · split
    · exact refl.service hx
    · exact refl
  · exact refl

theorem execOperateClose {p : Port} {b : Byte} (ht : execOperateClose p b s = .next t) : x.Same s.control t.control := by
  refine asking ht fun k => ?_
  split
  · exact Control.withBreaker_held fun _ => Control.portClose_held ..
  · rfl

theorem execResetBreaker {p : Port} {b : Byte} (ht : execResetBreaker p b s = .next t) (hx : ∀ b, x ≠ .flags b) :
    x.Same s.control t.control := by
  refine request ht fun k => ?_
  unfold withBreaker
  split
  · exact refl.clearFlags (hx _)
  · exact refl

theorem execTransfer {p : Port} {l target m : Byte} (ht : execTransfer p l target m s = .next t) :
    x.Same s.control t.control := by
  refine asking ht fun k => ?_
  split
  · exact Control.requestTransfer_held ..
  · rfl

theorem execGroupSelect {p : Port} {g : Byte} (ht : execGroupSelect p g s = .next t) (hx : x ≠ .active) :
    x.Same s.control t.control := by
  refine request ht fun k => ?_
  split
  · exact refl.selectGroup hx
  · exact refl

theorem execWindow {p : Port} {g : Byte} (ht : execWindow p g s = .next t) : x.Same s.control t.control := by
  refine request ht fun k => ?_
  split
  · exact refl.modPort
  · exact refl

theorem execSettingRead {p : Port} {c i : Byte} (ht : execSettingRead p c i s = .next t) :
    x.Same s.control t.control := by
  refine asking ht fun k => ?_
  split <;> rfl

theorem execSettingWrite {p : Port} {c i : Byte} {v : Word32} (ht : execSettingWrite p c i v s = .next t)
    (hx : x ≠ .settings) : x.Same s.control t.control := by
  refine request ht fun k => ?_
  split
  · exact refl.requestWrite hx
  · exact refl

theorem execCurveBegin {p : Port} {c : Byte} (ht : execCurveBegin p c s = .next t) (hx : x ≠ .buffer) :
    x.Same s.control t.control := by
  refine request ht fun k => ?_
  split
  · exact refl.putBuffer hx
  · exact refl

theorem takeOver {p : Port} {e : Sensed} (k : Control) : x.Same k (k.takeOver e p).1 := by
  unfold Control.takeOver
  split
  · exact refl
  · exact (refl.modPort).held (Control.record_held ..)

theorem releaseRole {p : Port} {e : Sensed} (k : Control) : x.Same k (k.releaseRole e p).1 := by
  unfold Control.releaseRole
  split
  · exact refl
  · exact (refl.modPort).held (Control.record_held ..)
  · exact (refl.modPort).held (Control.record_held ..)

/-! ## Every command -/

/-- A command not named for a part leaves it, outside reset. -/
theorem exec {c : Instr} (hr : s.inReset = false) (ht : exec c s = .next t) (hassert : c ≠ .resetInputAsserted)
    (hreset : ∀ intact, c ≠ .deviceReset intact) (hx : ¬Touches c x) : x.Same s.control t.control := by
  cases c
  case measurementFrame => exact execMeasurement ht
  case frameWatchdogExpiry => exact execWatchdog ht
  case zeroCrossingRise => exact actSensed ht fun _ => refl
  case pulseDiscarded => exact execPulse ht
  case qualifiedEdge => exact execEdge ht
  case lastEdgeTimerExpiry => exact execLastEdge ht
  case lossDelayExpiry => exact expiry ht fun _ => Control.setHealth_held ..
  case returnStableExpiry => exact expiry ht fun _ => Control.setHealth_held ..
  case attemptDeadline => exact execAttempt ht
  case contactCombinationChange =>
    exact levelTaken hr ht fun k => refl.modBreaker (fun h => absurd (h ▸ .contactChange) hx) (fun _ _ => ⟨rfl, rfl⟩)
      (fun _ _ => ⟨rfl, rfl⟩)
  case contactSettle => exact act ht fun k => ite (refl.settleContacts fun h => hx (h ▸ .contactSettle)) refl
  case operationDeadline => exact execOperation ht fun h => hx (h ▸ .operationDeadline)
  case claimLapse => exact execClaim ht
  case overlapExpiry => exact execOverlap ht
  case reserveTimerExpiry => exact expiry ht fun _ => Control.endTransfer_held ..
  case deadTimeExpiry => exact expiry ht fun _ => rfl
  case generatorWaitExpiry => exact execGeneratorWait ht
  case arrivalLimitExpiry => exact expiry ht fun _ => Control.endTransfer_held ..
  case gbLossTimerExpiry =>
    refine expiry ht fun k => (Control.triggers_held ..).trans (Control.held_tsq k _ rfl rfl rfl)
  case startUpDelayEnd => exact execStartUp ht
  case readyChange => exact levelTaken hr ht fun k => refl.readyChanged fun h => hx (h ▸ .readyChange)
  case startTimerExpiry => exact expiry ht fun _ => Control.failSlot_held ..
  case syncWaitExpiry => exact expiry ht fun _ => Control.failSlot_held ..
  case rampStepExpiry => exact expiry ht fun _ => Control.rampStep_held ..
  case unloadLimitExpiry => exact expiry ht fun _ => Control.unloadLimit_held ..
  case cooldownExpiry => exact expiry ht fun _ => Control.setSlotState_held ..
  case biasPeriodStart => exact act ht fun k => ite (refl.withBias fun h => hx (h ▸ .biasPeriod)) refl
  case biasHighTimeEnd => exact act ht fun k => ite (refl.withBias fun h => hx (h ▸ .biasHigh)) refl
  case overloadTimerExpiry => exact expiry ht fun _ => Control.overloadExpired_held ..
  case underfrequencyTimerExpiry => exact expiry ht fun _ => Control.ufExpired_held ..
  case restoreIntervalEnd =>
    exact expiry ht fun k => (Control.seekRestore_held ..).trans (Control.setRestoreTimer_held .off k)
  case failureTimerExpiry => exact expiry ht fun _ => Control.failureExpired_held ..
  case nonvolatileWriteCompletion => exact execWrite ht fun h => hx (h ▸ .writeCompletion)
  case resetInputAsserted => exact absurd rfl hassert
  case deviceReset intact => exact absurd rfl (hreset intact)
  case keyInputChange => exact levelTaken hr ht fun k => refl.modKey fun h => hx (h ▸ .keyInput)
  case keyChangeEffect =>
    exact act ht fun k => ite (refl.keyEffect (fun h => hx (h ▸ .keyEffect)) fun hk h => hx (h ▸ hk ▸ .localKey)) refl
  case livenessLapse => exact act ht fun k => ite ((refl.modPort).held (Control.record_held ..)) refl
  case windowEnded => exact act ht fun _ => refl.modPort
  case badRequest => exact act ht fun _ => refl.modPort
  case badCheck => exact act ht fun _ => refl.modPort
  case readRecord => exact reading ht
  case status => exact reading ht
  case liveness => exact reading ht
  case eventRead => exact asking ht fun _ => Control.readEvents_held ..
  case takeover => exact request ht takeOver
  case release => exact request ht releaseRole
  case hold => exact execHold ht fun h => hx (h ▸ .hold)
  case releaseHold => exact request ht fun k => ite (refl.leaveHold fun h => hx (h ▸ .releaseHold)) refl
  case step => exact asking ht fun k => Control.withBus_held fun _ => Control.takeStep_held ..
  case service => exact execService ht fun h => hx (h ▸ .service)
  case operateClose => exact execOperateClose ht
  case operateOpen => exact asking ht fun k => Control.withBreaker_held fun _ => Control.portOpen_held ..
  case resetBreaker => exact execResetBreaker ht fun b h => hx (h ▸ .resetBreaker)
  case resetLockout => exact asking ht fun k => Control.withBreaker_held fun _ => Control.resetLockout_held ..
  case transfer => exact execTransfer ht
  case cancelTransfer => exact asking ht fun k => Control.withBus_held fun _ => Control.cancelTransfer_held ..
  case start => exact asking ht fun k => Control.withSlot_held fun _ => Control.startSlot_held ..
  case stop => exact asking ht fun k => Control.withSlot_held fun _ => Control.stopSlot_held ..
  case resetSlot => exact asking ht fun k => Control.withSlot_held fun _ => Control.requestResetSlot_held ..
  case biasSet => exact asking ht fun k => Control.withSlot_held fun _ => Control.biasSet_held ..
  case shed => exact asking ht fun _ => Control.shedRequest_held ..
  case restore => exact asking ht fun _ => Control.restoreRequest_held ..
  case block => exact asking ht fun _ => Control.blockRequest_held ..
  case unblock => exact asking ht fun _ => Control.unblockRequest_held ..
  case groupSelect => exact execGroupSelect ht fun h => hx (h ▸ .groupSelect)
  case sequenceReset => exact asking ht fun _ => Control.sequenceReset_held ..
  case ackAttention => exact asking ht fun _ => rfl
  case window => exact execWindow ht
  case settingRead => exact execSettingRead ht
  case settingWrite => exact execSettingWrite ht fun h => hx (h ▸ .settingWrite)
  case curveBegin => exact execCurveBegin ht fun h => hx (h ▸ .curveBegin)
  case curveEntry =>
    exact request ht fun k => refl.curveEntry (fun h => hx (h ▸ .curveEntryBuffer)) fun h => hx (h ▸ .curveEntryTable)

end Sys2Proof.Machine.Part.Same

namespace Sys2Proof.Machine

/-- Settles O55, by the parts: a command not named for a part leaves it, and what follows from any command leaves all. -/
theorem onlyTheNamedCommandsChange : Obligations.OnlyTheNamedCommandsChange := by
  intro c s t hr ht hassert hreset
  have hsame : ∀ x, ¬Touches c x → x.Same s.control t.control := fun x hx => Part.Same.exec hr ht hassert hreset hx
  refine ⟨fun b h => hsame (.contacts b) ?_, fun b h => hsame (.observed b) ?_, fun b h h' => hsame (.flags b) ?_,
    fun h h' h'' => hsame .hold ?_, fun n h => hsame (.ready n) ?_, fun h h' => hsame .bias ?_,
    fun h h' => hsame .buffer ?_, fun key h h' => hsame (.key key) ?_, fun h => hsame .settings ?_,
    fun h => hsame .active ?_, fun h => hsame .service ?_, fun h => hsame .curves ?_, fun h => hsame .image ?_⟩
  · rintro ⟨⟩; exact h _ _ rfl
  · rintro ⟨⟩; exact h rfl
  · rintro (_ | _)
    · exact h rfl
    · exact h' _ _ rfl
  · rintro (_ | _)
    · exact h _ rfl
    · exact h' _ rfl
    · exact h'' rfl
  · rintro ⟨⟩; exact h _ rfl
  · rintro (_ | _)
    · exact h rfl
    · exact h' _ rfl
  · rintro (_ | _)
    · exact h _ _ rfl
    · exact h' _ _ _ rfl
  · rintro (_ | _)
    · exact h _ rfl
    · exact h' rfl
  · rintro ⟨⟩; exact h _ _ _ _ rfl
  · rintro ⟨⟩; exact h _ _ rfl
  · rintro ⟨⟩; exact h _ _ _ rfl
  · rintro ⟨⟩; exact h _ _ _ rfl
  · rintro ⟨⟩; exact h _ rfl

end Sys2Proof.Machine
end

section
/-! Every command completes, and every request is judged for access and answered in its own port's window. -/

namespace Sys2Proof.Machine

/-! ## Every command completes -/

/-- The next state of a command has the queue as it was. -/
def Completes (o : Host.Outcome State Fault Refusal) (s : State) : Prop := ∃ t, o = .next t ∧ t.pending = s.pending

namespace Completes

variable {s : State}

theorem next {t : State} (h : t.pending = s.pending) : Completes (.next t) s := ⟨t, rfl, h⟩

theorem idle : Completes (.next s) s := next rfl

theorem ite {c : Prop} [Decidable c] {o o' : Host.Outcome State Fault Refusal} (h : Completes o s)
    (h' : Completes o' s) : Completes (if c then o else o') s := by
  split <;> assumption

theorem act (f : Control → Control) : Completes (s.act f) s := ite idle (next rfl)

theorem actSensed (e : Sensed) (f : Control → Control) : Completes (s.actSensed e f) s := ite idle (next rfl)

/-- Every command completes. -/
theorem exec (c : Instr) (s : State) : Completes (exec c s) s := by
  cases c
  case measurementFrame => exact ite (actSensed ..) idle
  case frameWatchdogExpiry => exact ite (actSensed ..) idle
  case zeroCrossingRise => exact actSensed ..
  case pulseDiscarded c =>
    change Completes (execPulseDiscarded c s) s
    unfold execPulseDiscarded
    dsimp only
    split
    · exact ite (actSensed ..) idle
    · exact idle
  case qualifiedEdge c =>
    change Completes (execQualifiedEdge c s) s
    unfold execQualifiedEdge
    dsimp only
    split
    · exact ite idle (actSensed ..)
    · exact idle
  case lastEdgeTimerExpiry => exact ite (actSensed ..) idle
  case contactCombinationChange => exact ite idle (ite (next rfl) (act _))
  case readyChange => exact ite idle (ite (next rfl) (act _))
  case keyInputChange => exact ite idle (ite (next rfl) (act _))
  case resetInputAsserted => exact next rfl
  case deviceReset => exact next rfl
  all_goals exact act _

end Completes

/-- Settles O2, by the one form all commands share: nothing, or a next state of the blocks and the measured side alone. -/
theorem everyCommandLeavesTheQueue : Obligations.EveryCommandLeavesTheQueue := Completes.exec

/-- Settles O1. -/
theorem stepRunsTheFrontCommand : Obligations.StepRunsTheFrontCommand := fun c rest s h => step_front s c rest h

/-! ## Time -/

/-- Settles O3, by what one tick does to the clock below and at the end of a millisecond. -/
theorem idleStepIsOneTick : Obligations.IdleStepIsOneTick := by
  intro s hp
  have hstep : step s = .next s.tick := by rw [step, hp]
  refine ⟨fun hr => ?_, fun hr => ⟨s.tick, hstep, ?_⟩⟩
  · rw [hstep, State.tick, if_pos hr]
  · have htick : s.tick = { s with
        sensed := { s.sensed with clock := s.sensed.clock.advance 1 }
        pending := s.pending ++ dueCommands { s.sensed with clock := s.sensed.clock.advance 1 } s.control } := by
      rw [State.tick, if_neg (by simp [hr])]
    rw [htick]
    refine ⟨hr, rfl, rfl, rfl, rfl, fun hsub => ⟨?_, ?_⟩, fun hsub => ⟨?_, ?_⟩, by rw [hp]; rfl⟩
    · exact Nat.mod_eq_of_lt (by omega)
    · have hdiv : (s.sensed.clock.subMs + 1) / 10000 = 0 := Nat.div_eq_of_lt (by omega)
      simp [Clock.advance, hdiv]
    · simp [Clock.advance, hsub]
    · simp [Clock.advance, hsub]

/-- Settles O4: the distance past the deadline is below half the circle just when the length has passed. -/
theorem deadlineIsReachedAfterItsLength : Obligations.DeadlineIsReachedAfterItsLength := by
  intro now len passed hlen hpassed
  have hreached : reached (deadlineAfter now len) (now + BitVec.ofNat 32 passed) = decide (len ≤ passed) := by
    unfold reached deadlineAfter
    rw [decide_eq_decide]
    bv_omega
  refine ⟨hreached, ?_⟩
  unfold timeLeft
  rw [hreached]
  split
  · next h => have := of_decide_eq_true h; omega
  · next h =>
    have hlt : passed < len := by simpa using h
    unfold deadlineAfter
    bv_omega

/-- Settles O19, by the tests of the class in their order. -/
theorem channelClassIsDecidedInOrder : Obligations.ChannelClassIsDecidedInOrder := by
  intro e k c v
  refine ⟨fun hf => ?_, fun hf hv ht => ?_, fun hf hnot => ?_⟩
  · simp [classOf, hf]
  · simp [classOf, hf, show k.common.liveThreshold ≤ e.mlr.image.volt.get c from hv, ht]
  · have hlive : ¬(k.common.liveThreshold ≤ e.mlr.image.volt.get c && (e.pcu.get c).state = .tracking) = true := by
      simpa using hnot
    have hclass : classOf e k c = if v ≤ k.common.deadThreshold then .dead else .indeterminate := by
      rw [classOf, if_neg (by simp [hf]), if_neg hlive]
    exact ⟨fun hv => by rw [hclass, if_pos hv], fun hv => by rw [hclass, if_neg (Nat.not_le.2 hv)]⟩

/-! ## Requests -/

/-- What the owner of a request leaves of the ports: the keys, the other ports' contexts, and the role, lapse timer and
group window of its own port but for the requests about these. -/
structure OwnerLeaves (c : Instr) (p : Port) (owner : Control → Control × Response) : Prop where
  keys : ∀ k, (owner k).1.cpi.keys = k.cpi.keys
  others : ∀ k q, q ≠ p → (owner k).1.port q = k.port q
  window : ∀ k, (∀ g, c ≠ .window p g) → ((owner k).1.port p).window = (k.port p).window
  role : ∀ k, c ≠ .takeover p → c ≠ .release p →
    ((owner k).1.port p).role = (k.port p).role ∧ ((owner k).1.port p).lapse = (k.port p).lapse

namespace OwnerLeaves

variable {c : Instr} {p : Port}

/-- An owner that leaves all contexts. -/
theorem of_cpi {owner : Control → Control × Response} (h : ∀ k, (owner k).1.cpi = k.cpi) : OwnerLeaves c p owner where
  keys k := congrArg Cpi.keys (h k)
  others k q _ := congrArg (fun x : Cpi => x.ports.get q) (h k)
  window k _ := congrArg (fun x : Cpi => (x.ports.get p).window) (h k)
  role k _ _ := ⟨congrArg (fun x : Cpi => (x.ports.get p).role) (h k),
    congrArg (fun x : Cpi => (x.ports.get p).lapse) (h k)⟩

theorem of_held {owner : Control → Control × Response} (h : ∀ k, (owner k).1.held = k.held) : OwnerLeaves c p owner :=
  of_cpi fun k => Control.cpi_of_held (h k)

/-- A context written that keeps its group window. -/
theorem window_modPort (k : Control) (p : Port) (f : PortRec → PortRec) (hf : ∀ r, (f r).window = r.window) :
    ((k.modPort p f).port p).window = (k.port p).window := by
  rw [Control.port_modPort_same, hf]

theorem takeOver (e : Sensed) : OwnerLeaves (.takeover p) p (Control.takeOver e p) where
  keys k := by unfold Control.takeOver; split <;> rfl
  others k q hq := by
    unfold Control.takeOver
    split
    · rfl
    · exact Control.port_modPort_other k _ hq
  window k _ := by
    unfold Control.takeOver
    split
    · rfl
    · exact window_modPort k p _ fun _ => rfl
  role _ h := absurd rfl h

theorem releaseRole (e : Sensed) : OwnerLeaves (.release p) p (Control.releaseRole e p) where
  keys k := by unfold Control.releaseRole; split <;> rfl
  others k q hq := by
    unfold Control.releaseRole
    split
    · rfl
    · exact Control.port_modPort_other k _ hq
    · exact Control.port_modPort_other k _ hq
  window k _ := by
    unfold Control.releaseRole
    split
    · rfl
    · exact window_modPort k p _ fun _ => rfl
    · exact window_modPort k p _ fun _ => rfl
  role _ _ h := absurd rfl h

theorem setWindow (g : GroupNo) (k : Control) :
    (k.setWindow p g).cpi.keys = k.cpi.keys ∧ (∀ q, q ≠ p → (k.setWindow p g).port q = k.port q) ∧
      ((k.setWindow p g).port p).role = (k.port p).role ∧ ((k.setWindow p g).port p).lapse = (k.port p).lapse := by
  refine ⟨rfl, fun q hq => Control.port_modPort_other k _ hq, ?_⟩
  rw [Control.setWindow, Control.port_modPort_same]
  exact ⟨rfl, rfl⟩

end OwnerLeaves

/-- The owners of the requests that write settings, flags, hold or curves leave the ports. -/
theorem Control.service_cpi (e : Sensed) (set : Bool) (b : Breaker) (k : Control) :
    (k.service e set b).1.cpi = k.cpi := by
  unfold Control.service
  split
  · rfl
  · split
    · rfl
    · exact (Control.cpi_of_held (Control.tell_held ..)).trans ((Control.cpi_of_held (Control.recompute_held ..)).trans rfl)

theorem Control.enterHold_cpi (e : Sensed) (k : Control) (p : Port) : (k.enterHold e p).cpi = k.cpi := by
  have hfrozen : ∀ k' : Control, ((k'.freezeStages e).holdEnteredGsc e).cpi = k'.cpi := fun k' =>
    Control.cpi_of_held (by simp)
  exact hfrozen _

theorem Control.leaveHold_cpi (e : Sensed) (k : Control) (c : Cause) : (k.leaveHold e c).cpi = k.cpi := by
  have hwithdrawn : ∀ k' : Control, (k'.withdrawSteps e).cpi = k'.cpi := fun k' => Control.cpi_of_held (by simp)
  exact hwithdrawn _

theorem Control.selectGroup_cpi (e : Sensed) (p : Port) (g : GroupNo) (k : Control) :
    (k.selectGroup e p g).1.cpi = k.cpi := by
  unfold Control.selectGroup
  split
  · rfl
  · split <;> rfl

theorem Control.requestWrite_cpi (e : Sensed) (p : Port) (r : ItemRef) (v : Nat) (k : Control) :
    (k.requestWrite e p r v).1.cpi = k.cpi := by
  unfold Control.requestWrite
  split
  · rfl
  · exact (Control.cpi_of_held (Control.settingWritten_held ..)).trans rfl

theorem Control.curveEntry_cpi (e : Sensed) (p : Port) (x : CurveEntry) (k : Control) :
    (k.curveEntry e p x).1.cpi = k.cpi := by
  unfold Control.curveEntry Control.validateCurve
  dsimp only
  split
  · rfl
  split
  · rfl
  split
  · rfl
  split
  · rfl
  split <;> rfl

/-- A request is judged for its class and passed to an owner that leaves the ports but for what it is about. -/
theorem exec_request {c : Instr} {p : Port} {cl : RequestClass} (hc : requestOf c = some (p, cl)) (s : State) :
    ∃ owner, exec c s = s.request p cl owner ∧ OwnerLeaves c p owner := by
  cases c
  case window g =>
    cases hc
    refine ⟨_, rfl, ?_, ?_, ?_, ?_⟩
    · intro k; split <;> rfl
    · intro k q hq
      split
      · next w _ => exact (OwnerLeaves.setWindow w k).2.1 q hq
      · rfl
    · exact fun _ h => absurd rfl (h g)
    · intro k _ _
      split
      · next w _ => exact (OwnerLeaves.setWindow w k).2.2
      · exact ⟨rfl, rfl⟩
  case takeover => cases hc; exact ⟨_, rfl, .takeOver _⟩
  case release => cases hc; exact ⟨_, rfl, .releaseRole _⟩
  case readRecord => cases hc; exact ⟨_, rfl, .of_cpi fun _ => rfl⟩
  case status => cases hc; exact ⟨_, rfl, .of_cpi fun _ => rfl⟩
  case liveness => cases hc; exact ⟨_, rfl, .of_cpi fun _ => rfl⟩
  case eventRead => cases hc; exact ⟨_, rfl, .of_held fun _ => Control.readEvents_held ..⟩
  case hold =>
    cases hc
    refine ⟨_, rfl, .of_cpi fun k => ?_⟩
    split
    · rfl
    · split
      · rfl
      · exact Control.enterHold_cpi ..
  case releaseHold =>
    cases hc
    refine ⟨_, rfl, .of_cpi fun k => ?_⟩
    dsimp only
    split
    · exact Control.leaveHold_cpi ..
    · rfl
  case step => cases hc; exact ⟨_, rfl, .of_held fun _ => Control.withBus_held fun _ => Control.takeStep_held ..⟩
  case service =>
    cases hc
    refine ⟨_, rfl, .of_cpi fun k => ?_⟩
    unfold withBreaker
    split
    · split
      · exact Control.service_cpi ..
      · rfl
    · rfl
  case operateClose =>
    cases hc
    refine ⟨_, rfl, .of_held fun k => ?_⟩
    split
    · exact Control.withBreaker_held fun _ => Control.portClose_held ..
    · rfl
  case operateOpen =>
    cases hc; exact ⟨_, rfl, .of_held fun _ => Control.withBreaker_held fun _ => Control.portOpen_held ..⟩
  case resetBreaker =>
    cases hc
    refine ⟨_, rfl, .of_cpi fun k => ?_⟩
    unfold withBreaker
    split <;> rfl
  case resetLockout =>
    cases hc; exact ⟨_, rfl, .of_held fun _ => Control.withBreaker_held fun _ => Control.resetLockout_held ..⟩
  case transfer =>
    cases hc
    refine ⟨_, rfl, .of_held fun k => ?_⟩
    split
    · exact Control.requestTransfer_held ..
    · rfl
  case cancelTransfer =>
    cases hc; exact ⟨_, rfl, .of_held fun _ => Control.withBus_held fun _ => Control.cancelTransfer_held ..⟩
  case start => cases hc; exact ⟨_, rfl, .of_held fun _ => Control.withSlot_held fun _ => Control.startSlot_held ..⟩
  case stop => cases hc; exact ⟨_, rfl, .of_held fun _ => Control.withSlot_held fun _ => Control.stopSlot_held ..⟩
  case resetSlot =>
    cases hc; exact ⟨_, rfl, .of_held fun _ => Control.withSlot_held fun _ => Control.requestResetSlot_held ..⟩
  case biasSet => cases hc; exact ⟨_, rfl, .of_held fun _ => Control.withSlot_held fun _ => Control.biasSet_held ..⟩
  case shed => cases hc; exact ⟨_, rfl, .of_held fun _ => Control.shedRequest_held ..⟩
  case restore => cases hc; exact ⟨_, rfl, .of_held fun _ => Control.restoreRequest_held ..⟩
  case block => cases hc; exact ⟨_, rfl, .of_held fun _ => Control.blockRequest_held ..⟩
  case unblock => cases hc; exact ⟨_, rfl, .of_held fun _ => Control.unblockRequest_held ..⟩
  case groupSelect =>
    cases hc
    refine ⟨_, rfl, .of_cpi fun k => ?_⟩
    split
    · exact Control.selectGroup_cpi ..
    · rfl
  case sequenceReset => cases hc; exact ⟨_, rfl, .of_held fun _ => Control.sequenceReset_held ..⟩
  case ackAttention => cases hc; exact ⟨_, rfl, .of_held fun _ => rfl⟩
  case settingRead =>
    cases hc
    refine ⟨_, rfl, .of_cpi fun k => ?_⟩
    split <;> rfl
  case settingWrite =>
    cases hc
    refine ⟨_, rfl, .of_cpi fun k => ?_⟩
    split
    · exact Control.requestWrite_cpi ..
    · rfl
  case curveBegin =>
    cases hc
    refine ⟨_, rfl, .of_cpi fun k => ?_⟩
    split <;> rfl
  case curveEntry => cases hc; exact ⟨_, rfl, .of_cpi fun _ => Control.curveEntry_cpi ..⟩
  all_goals cases hc

/-- Settles O6, by the one form of all requests. -/
theorem unentitledRequestIsOnlyRefused : Obligations.UnentitledRequestIsOnlyRefused := by
  intro c p cl r s hc hr hrefused
  obtain ⟨owner, hexec, -⟩ := exec_request hc s
  rw [hexec, State.request_refused s p cl owner r hr hrefused]

/-- The context of an ACTIVE port with its lapse timer reloaded, and any other as it was (R168). -/
theorem State.asked_port (s : State) (p q : Port) :
    (s.asked p).port q =
      if q = p ∧ isActive s.control p then
        { s.control.port p with lapse := .start s.now s.control.common.lapseTime } else s.control.port q := by
  change ((s.blocks.reloadLapse s.sensed p).port q) = _
  have hactive : isActive s.blocks p = isActive s.control p := rfl
  unfold Control.reloadLapse
  rw [hactive]
  by_cases ha : isActive s.control p = true
  · rw [if_pos ha]
    by_cases hq : q = p
    · rw [if_pos ⟨hq, ha⟩, hq, Control.port_modPort_same]; rfl
    · rw [if_neg (fun h => hq h.1), Control.port_modPort_other _ _ hq]; rfl
  · rw [if_neg ha, if_neg (fun h => ha h.2)]; rfl

theorem State.asked_keys (s : State) (p : Port) : (s.asked p).cpi.keys = s.control.cpi.keys := by
  change (s.blocks.reloadLapse s.sensed p).cpi.keys = _
  unfold Control.reloadLapse
  split <;> rfl

/-- Settles O7: what follows from a request leaves every context, its answer is written in its own, and its owner leaves
the ports but for what the request is about. -/
theorem requestIsAnsweredInItsOwnWindow : Obligations.RequestIsAnsweredInItsOwnWindow := by
  intro c p cl s t hc hr ht
  obtain ⟨owner, hexec, hleaves⟩ := exec_request hc s
  -- The contexts and keys after the request are those its owner leaves, with the answer.
  obtain ⟨k, r, hcpi, hkeys, hothers, hwindow, hrole⟩ : ∃ (k : Control) (r : Response),
      t.control.cpi = (k.respond p r).cpi ∧ k.cpi.keys = s.control.cpi.keys ∧
      (∀ q, q ≠ p → k.port q = s.control.port q) ∧
      ((∀ g, c ≠ .window p g) → (k.port p).window = ((s.asked p).port p).window) ∧
      (c ≠ .takeover p → c ≠ .release p →
        (k.port p).role = ((s.asked p).port p).role ∧ (k.port p).lapse = ((s.asked p).port p).lapse) := by
    have hasked : ∀ q, q ≠ p → (s.asked p).port q = s.control.port q := fun q hq => by
      rw [State.asked_port, if_neg fun h => hq h.1]
    rw [hexec] at ht
    cases hadmit : admissionRefusal (s.asked p) p cl with
    | some r =>
      rw [State.request_refused s p cl owner r hr hadmit] at ht
      injection ht with ht
      subst ht
      exact ⟨s.asked p, refusal r, rfl, s.asked_keys p, hasked, fun _ => rfl, fun _ _ => ⟨rfl, rfl⟩⟩
    | none =>
      rw [State.request_settled s p cl owner hr hadmit] at ht
      injection ht with ht
      subst ht
      exact ⟨(owner (s.asked p)).1, _, Control.cpi_of_held (State.settled_held ..),
        (hleaves.keys _).trans (s.asked_keys p), fun q hq => (hleaves.others _ q hq).trans (hasked q hq),
        hleaves.window _, hleaves.role _⟩
  have hport : ∀ q, t.control.port q = (k.respond p r).port q := fun q => congrArg (fun x : Cpi => x.ports.get q) hcpi
  have hown : t.control.port p = { k.port p with response := some r, assembly := [], discarding := false } :=
    (hport p).trans (Control.port_modPort_same ..)
  have hreload := State.asked_port s p p
  refine ⟨⟨r, by rw [hown]⟩, ?_, fun q hq => ?_, fun h => ?_, fun h h' => ⟨?_, ?_⟩⟩
  · exact (congrArg Cpi.keys hcpi).trans hkeys
  · rw [hport, ← hothers q hq]; exact Control.port_modPort_other k _ hq
  · rw [hown]
    refine (hwindow h).trans ?_
    rw [hreload]; split <;> rfl
  · rw [hown]
    refine (hrole h h').1.trans ?_
    rw [hreload]; split <;> rfl
  · rw [hown]
    refine (hrole h h').2.trans ?_
    rw [hreload]
    by_cases ha : isActive s.control p = true <;> simp [ha]

end Sys2Proof.Machine
end

section
/-! Windows without a well-formed request, and requests that only read. -/

namespace Sys2Proof.Machine

/-- Settles O10, as none of the three tells a block anything. -/
theorem faultyWindowsChangeOnlyTheirAnswer : Obligations.FaultyWindowsChangeOnlyTheirAnswer :=
  fun _ _ s hr => ⟨s.act_quiet _ hr rfl, s.act_quiet _ hr rfl, s.act_quiet _ hr rfl⟩

/-- An admitted request that only reads changes nothing but its answer. -/
theorem State.request_reading (s : State) (p : Port) (cl : RequestClass) (answer : Control → Response)
    (hr : s.inReset = false) (h : s.admits p cl) :
    (s.request p cl fun k => (k, answer k)) =
      .next { s with control := (s.asked p).respond p (answer (s.asked p)) } :=
  s.request_quiet p cl _ hr h (s.asked_notices p)

/-- Settles O11, by the form of a request that only reads. -/
theorem readingChangesOnlyTheAnswer : Obligations.ReadingChangesOnlyTheAnswer := by
  intro p table first count code index s hr k
  refine ⟨?_, ?_, fun hp => ?_, fun hadmit => ?_⟩
  · exact s.request_reading p .read _ hr (s.admits_read p)
  · exact s.request_reading p .read _ hr (s.admits_read p)
  · refine (s.request_reading p .role _ hr (s.admits_role hp)).trans ?_
    simp only [livenessAnswer, isActive_iff, ne_eq, hp, not_false_eq_true, true_and]
    rfl
  · have howner : (fun k => match itemNamed k p code index with
        | some r => (k, settingAnswer k r)
        | none => (k, refusal .range)) = fun k => (k, match itemNamed k p code index with
          | some r => settingAnswer k r
          | none => refusal .range) := by
      funext k
      split <;> rfl
    exact (congrArg (s.request p .setting) howner).trans (s.request_reading p .setting _ hr hadmit)

end Sys2Proof.Machine
end

section
/-! Device reset: what its release leaves and loads, and what its assertion releases. -/

namespace Sys2Proof.Machine

theorem get_ofFn_group {α : Type} (f : GroupNo → α) (g : GroupNo) : (PerGroup.ofFn f).get g = f g := by cases g <;> rfl

theorem get_ofFn_curve {α : Type} (f : CurveNo → α) (c : CurveNo) : (PerCurve.ofFn f).get c = f c := by cases c <;> rfl

section Reset

variable (image : StoreData) (intact : Bool) (inp : InputLevels)

/-! ## What device reset leaves, record by record -/

/-- What device reset loads: the image, or the defaults (R178). -/
theorem resetControl_working :
    (resetControl image intact inp).sst.working = if intact then image else defaultedStore := by
  cases intact <;> rfl

theorem resetControl_breaker (b : Breaker) :
    (resetControl image intact inp).breaker b =
      resetBreaker (resetControl image intact inp).common.settleTime (inp.closedMade.get b) (inp.openMade.get b) := by
  rw [Control.common, resetControl_working]
  exact PerBreaker.get_ofFn ..

theorem resetControl_slot (n : Slot) :
    (resetControl image intact inp).slot n =
      { resetSlot true (inp.ready.get n) with state := restState (resetControl image intact inp) n } := by
  have hslot : (resetControl image intact inp).slot n = resetSlot
      ((if intact then image else defaultedStore).common.slotEnabled.get n &&
        !(if intact then image else defaultedStore).outOfService.get (slotBreaker n)) (inp.ready.get n) :=
    PerSlot.get_ofFn ..
  rw [hslot, restState, Control.common, Control.outOfService, resetControl_working]
  rfl

theorem resetControl_port (p : Port) :
    (resetControl image intact inp).port p = resetPort (inp.windowOpen.get p) := PerPort.get_ofFn ..

theorem resetControl_key (key : Key) :
    (resetControl image intact inp).cpi.keys.get key = resetKey (inp.keys.get key) := PerKey.get_ofFn ..

/-- Every port has unread records after device reset (R171, R178). -/
theorem resetControl_attention (p : Port) : attention false (resetControl image intact inp) p = true := by
  have hunread : unread (resetControl image intact inp) p = if intact then 1 else 2 := by
    change ((resetErq intact).nextSeq - (resetErq intact).cursors.get p).toNat = _
    cases intact <;> simp [resetErq]
  rw [attention, hunread]
  cases intact <;> rfl

end Reset

/-- Settles O12, block by block. -/
theorem deviceResetLeavesEveryBlock : Obligations.DeviceResetLeavesEveryBlock := by
  intro intact s
  let k := resetControl s.control.sst.image intact (inputLevels s.control s.windowsAtRelease)
  have hsmn : ∀ u, k.smn.health.get u = { state := .unknown, timer := .off, reason := .none, lastChange := 0 } :=
    fun _ => PerUtility.get_ofFn ..
  have hattempt : ∀ n, k.attempt n = none := fun _ => PerAttempt.get_ofFn ..
  have hbreaker : ∀ b, k.breaker b =
      { closedMade := (s.control.breaker b).closedMade, openMade := (s.control.breaker b).openMade,
        settle := .running (BitVec.ofNat 32 k.common.settleTime), settled := false, observed := .travel,
        commanded := .opened, op := none, closeBlocked := false, openFailed := false, holder := none, opCount := 0,
        lastCause := .none, closeCoil := false, tripCoil := false } := fun b => by
    refine (resetControl_breaker ..).trans ?_
    simp only [inputLevels, PerBreaker.get_ofFn]
    rfl
  have hclaim : ∀ c, k.claim c = { holder := none, waiting := [] } := fun _ => PerClaimBus.get_ofFn ..
  have hxfer : ∀ l, k.xfer l = resetTransfer := fun _ => PerBus.get_ofFn ..
  have hslot : ∀ n, k.slot n = { resetSlot true (s.control.slot n).ready with state := restState k n } := fun n => by
    refine (resetControl_slot ..).trans ?_
    simp only [inputLevels, PerSlot.get_ofFn]
    rfl
  have hblock : ∀ f, k.blockRec f =
      { state := .openOther, restoreRequested := false, lastShed := .none, restorePort := false } :=
    fun _ => PerBlock.get_ofFn ..
  have hport : ∀ p, k.port p = resetPort (s.windowsAtRelease.get p) := fun _ => resetControl_port ..
  refine ⟨_, rfl, rfl, rfl, rfl, rfl, rfl, rfl, rfl, rfl, rfl, fun _ => PerChannel.get_ofFn .., fun _ => PerBreaker.get_ofFn ..,
    fun _ => PerSlot.get_ofFn .., fun _ => PerChannel.get_ofFn .., hsmn, rfl, hattempt, rfl, hbreaker, rfl,
    fun _ => PerBus.get_ofFn .., rfl, hclaim, fun l => ?_, rfl, rfl, rfl, rfl, rfl, rfl, fun n => ?_, rfl, rfl, fun f => ?_, rfl, rfl,
    rfl, fun _ => PerUfStage.get_ofFn .., fun _ => PerBreaker.get_ofFn .., rfl, rfl, hport, fun _ => ?_,
    fun p => ⟨PerPort.get_ofFn .., resetControl_attention ..⟩, rfl⟩
  · change (k.xfer l).inProgress = _ ∧ (k.xfer l).stage = _ ∧ (k.xfer l).result = _ ∧ (k.xfer l).recoverArmed = _ ∧
      (k.xfer l).stepPending = _ ∧ (k.xfer l).timer = _ ∧ (k.xfer l).retiring = _ ∧ (k.xfer l).arriving = _ ∧
      (k.xfer l).attempt = _ ∧ (k.xfer l).closeStarted = _ ∧ ∀ f, (k.xfer l).preShedMask.get f = _
    rw [hxfer]
    exact ⟨rfl, rfl, rfl, rfl, rfl, rfl, rfl, rfl, rfl, rfl, fun _ => PerBlock.get_ofFn ..⟩
  · change (k.slot n).state = restState k n ∧ (k.slot n).demand = _ ∧ (k.slot n).barred = _ ∧ (k.slot n).fault = _ ∧
      (k.slot n).attempt = _ ∧ (k.slot n).ready = _ ∧ (k.slot n).setPoint = _ ∧ (k.slot n).duty = _ ∧
      (k.slot n).deferredStop = _ ∧ (k.slot n).timer = _ ∧ (k.slot n).ramp = _
    rw [hslot]
    exact ⟨rfl, rfl, rfl, rfl, rfl, rfl, rfl, rfl, rfl, rfl, rfl⟩
  · change (k.blockRec f).state = _ ∧ (k.blockRec f).restoreRequested = _ ∧ (k.blockRec f).lastShed = _
    rw [hblock]
    exact ⟨rfl, rfl, rfl⟩
  · exact congrArg KeyRec.level (resetControl_key ..)

/-- Settles O13, by the two outcomes of the store's judgement. -/
theorem deviceResetLoadsTheStore : Obligations.DeviceResetLoadsTheStore := by
  intro s
  refine ⟨⟨_, rfl, rfl, rfl, rfl, rfl, fun _ => rfl, rfl, rfl⟩,
    ⟨_, _, rfl, rfl, rfl, rfl, rfl, fun _ => PerBus.get_ofFn .., rfl, fun _ => get_ofFn_group .., rfl, fun c => ?_,
      fun _ => ⟨PerBreaker.get_ofFn .., PerBreaker.get_ofFn ..⟩, fun _ => rfl, rfl, rfl⟩⟩
  have hcurve : defaultedStore.curves.get c = defaultCurve c := get_ofFn_curve ..
  change (defaultedStore.curves.get c).map _ = _ ∧ (defaultedStore.curves.get c).map _ = _
  rw [hcurve]
  cases c <;> exact ⟨rfl, rfl⟩

/-- A command without a meaning in reset changes nothing while reset is asserted (assumption 26). -/
theorem exec_inReset {c : Instr} {s : State} (hr : s.inReset = true) (hc : actsInReset c = false) : exec c s = .next s := by
  have hact : ∀ f, s.act f = .next s := fun f => s.act_inReset f hr
  have hsensed : ∀ e f, s.actSensed e f = .next s := fun e f => if_pos hr
  cases c
  case measurementFrame => exact (congrArg (ite _ · _) (hsensed ..)).trans (ite_self _)
  case frameWatchdogExpiry => exact (congrArg (ite _ · _) (hsensed ..)).trans (ite_self _)
  case zeroCrossingRise => exact hsensed ..
  case pulseDiscarded c =>
    change execPulseDiscarded c s = _
    unfold execPulseDiscarded
    simp only [hsensed, ite_self]
    split <;> rfl
  case qualifiedEdge c =>
    change execQualifiedEdge c s = _
    unfold execQualifiedEdge
    simp only [hsensed, ite_self]
    split <;> rfl
  case lastEdgeTimerExpiry => exact (congrArg (ite _ · _) (hsensed ..)).trans (ite_self _)
  case contactCombinationChange | readyChange | keyInputChange | resetInputAsserted | deviceReset => cases hc
  all_goals exact hact _

/-- Settles O14: the assertion leaves the blocks as a release would but for the outputs, and no other command acts then. -/
theorem resetAssertionReleasesTheOutputs : Obligations.ResetAssertionReleasesTheOutputs := by
  intro s
  refine ⟨⟨_, rfl, rfl, rfl, fun b => ?_, fun _ => rfl, fun _ => rfl, fun n => ⟨PerSlot.get_ofFn .., ?_⟩, rfl, rfl, rfl⟩,
    fun c hr hc => exec_inReset hr hc⟩
  · have hbreaker : (heldInReset s.control).breaker b =
        { resetBreaker s.control.sst.image.common.settleTime (s.control.breaker b).closedMade
            (s.control.breaker b).openMade with settle := .off } := by
      simp [heldInReset, Control.breaker, resetControl, inputLevels]
    change ((heldInReset s.control).breaker b).closeCoil = _ ∧ ((heldInReset s.control).breaker b).tripCoil = _ ∧
      ((heldInReset s.control).breaker b).op = _
    rw [hbreaker]
    exact ⟨rfl, rfl, rfl⟩
  · have hslot : ((heldInReset s.control).slot n).demand = .none := congrArg SlotRec.demand (resetControl_slot ..)
    change startDemand (heldInReset s.control) n = false
    simp [startDemand, hslot]

end Sys2Proof.Machine
end

section
/-! The timers of the measured side: the frame watchdog, qualifications and last edges; and the moves of the health
records. -/

namespace Sys2Proof.Machine

/-! ## The frame watchdog -/

/-- The expiry of the frame watchdog (R4, R5). -/
theorem exec_frameWatchdogExpiry_due (s : State) (hr : s.inReset = false)
    (hdue : s.sensed.mlr.watchdog.due s.now = true) :
    let e : Sensed := { s.sensed with mlr := s.sensed.mlr.expire }
    exec .frameWatchdogExpiry s = .next ({ s with sensed := e }.settled
      (if s.sensed.mlr.fresh then (s.blocks.recordKind e .measurementStale).tell stalenessNotices else s.blocks)) := by
  have hdue' : s.sensed.mlr.watchdog.due s.sensed.now = true := hdue
  change execFrameWatchdogExpiry s = _
  simp only [execFrameWatchdogExpiry, hdue', if_true, State.actSensed_running _ _ _ hr]
  rfl

/-- Settles O16, by the expiry of a watchdog that is due. -/
theorem watchdogExpiryMakesTheImageStale : Obligations.WatchdogExpiryMakesTheImageStale := by
  intro s hr
  refine ⟨fun hdue => ⟨_, exec_frameWatchdogExpiry_due s hr hdue, rfl, rfl, rfl, fun hf => ?_⟩, fun hdue => ?_⟩
  · rw [if_neg (by simp [hf]), State.settled_quiet _ _ rfl]
  · exact if_neg (by rw [← State.now, hdue]; simp)

/-! ## Zero crossings -/

/-- The expiry of a last-edge timer (R11). -/
theorem exec_lastEdgeTimerExpiry_due (c : Channel) (s : State) (hr : s.inReset = false)
    (hdue : lastEdgeDue (s.sensed.pcu.get c) s.sensed.clock.timebase = true) :
    let r := s.sensed.pcu.get c
    let e := s.sensed.setChannel c { r with state := .noSignal, good := 0, lastEdge := none }
    exec (.lastEdgeTimerExpiry c) s =
      .next ({ s with sensed := e }.settled ((s.blocks.channelEvent e c r.state).tell (channelNotices c))) := by
  change execLastEdgeTimerExpiry c s = _
  simp only [execLastEdgeTimerExpiry, hdue, if_true, State.actSensed_running _ _ _ hr]
  rfl

/-- Settles O17, each from the arm of its command. -/
theorem qualificationsAndLastEdgesExpire : Obligations.QualificationsAndLastEdgesExpire := by
  intro c s hr
  refine ⟨State.actSensed_quiet s _ _ hr rfl, fun q hq hrun => ?_, fun d hd hreached => ?_⟩
  · change execPulseDiscarded c s = _
    have hrun' : q.elapsed s.sensed.clock.timebase < q.length := hrun
    simp only [execPulseDiscarded, hq, hrun', if_true]
    exact State.actSensed_quiet s _ _ hr rfl
  · have hdue : lastEdgeDue (s.sensed.pcu.get c) s.sensed.clock.timebase = true := by rw [lastEdgeDue, hd]; exact hreached
    exact ⟨_, exec_lastEdgeTimerExpiry_due c s hr hdue, rfl⟩

/-! ## Health records -/

section Health

variable (e : Sensed) (k : Control) (u : Utility)

/-- A move with the out-of-band reason of the evaluation that makes it (R17, R19, R21). -/
theorem Control.noteReason_setHealth_eq (reason : Cause) (st : Health) (t : Timer) (c : Cause) :
    (k.noteReason u (some reason)).setHealth e u st t c =
      { k with
        smn := { k.smn with
          health := k.smn.health.set u { state := st, timer := t, reason := reason, lastChange := e.now } }
        erq := k.erq.append e.now .sourceState (.utility u) c st.number
        notices := k.notices ++ [.healthChanged u] } := by
  cases u <;> rfl

theorem Control.noteReason_eq (reason : Cause) :
    k.noteReason u (some reason) =
      { k with smn := { k.smn with health := k.smn.health.set u { k.smn.health.get u with reason := reason } } } := rfl

/-- An evaluation in band moves the state by its row, and gives no reason (R17, R19). -/
theorem Control.evaluateHealth_inBand (h : bandFailure e k u = none) :
    k.evaluateHealth e u = match healthMove e k (k.smn.health.get u).state true with
      | some (st, t, c) => k.setHealth e u st t c
      | none => k := by
  rw [Control.evaluateHealth, h]
  rfl

/-- An evaluation out of band gives its reason and moves the state by its row (R17, R19). -/
theorem Control.evaluateHealth_outOfBand {reason : Cause} (h : bandFailure e k u = some reason) :
    k.evaluateHealth e u = match healthMove e k (k.smn.health.get u).state false with
      | some (st, t, c) => (k.noteReason u (some reason)).setHealth e u st t c
      | none => k.noteReason u (some reason) := by
  rw [Control.evaluateHealth, h]
  rfl

end Health

/-- The expiry of a loss delay (R19). -/
theorem exec_lossDelayExpiry_due (u : Utility) (s : State) (hr : s.inReset = false)
    (hstate : (s.control.smn.health.get u).state = .pendingLoss)
    (hdue : (s.control.smn.health.get u).timer.due s.now = true) :
    exec (.lossDelayExpiry u) s = .next (s.settled (s.blocks.setHealth s.sensed u .lost .off .delayExpired)) := by
  have hmoves : (decide ((s.blocks.smn.health.get u).state = .pendingLoss) &&
      (s.blocks.smn.health.get u).timer.due s.sensed.now) = true := by
    rw [Bool.and_eq_true, decide_eq_true_eq]
    exact ⟨hstate, hdue⟩
  refine (s.act_settled _ hr).trans ?_
  rw [if_pos hmoves]

/-- The expiry of a return stable time (R19). -/
theorem exec_returnStableExpiry_due (u : Utility) (s : State) (hr : s.inReset = false)
    (hstate : (s.control.smn.health.get u).state = .returning)
    (hdue : (s.control.smn.health.get u).timer.due s.now = true) :
    exec (.returnStableExpiry u) s = .next (s.settled (s.blocks.setHealth s.sensed u .healthy .off .stableExpired)) := by
  have hmoves : (decide ((s.blocks.smn.health.get u).state = .returning) &&
      (s.blocks.smn.health.get u).timer.due s.sensed.now) = true := by
    rw [Bool.and_eq_true, decide_eq_true_eq]
    exact ⟨hstate, hdue⟩
  refine (s.act_settled _ hr).trans ?_
  rw [if_pos hmoves]

/-- Settles O20, by the rows of the table and what a move writes. -/
theorem healthMovesByTheTable : Obligations.HealthMovesByTheTable := by
  refine ⟨fun e k u => ?_, fun u s hr hdue => ⟨fun hstate => ?_, fun hstate => ?_⟩⟩
  · intro inBand old put moved judged
    refine ⟨fun hin => ?_, fun reason hout => ?_, fun c hc => ?_⟩
    · have hjudged := Control.evaluateHealth_inBand e k u (Option.isNone_iff_eq_none.1 hin)
      refine ⟨fun hs => ?_, fun hs => ?_, fun hs => ?_, fun hs => ?_⟩
      · exact hjudged.trans (by rw [show (k.smn.health.get u).state = _ from hs]; rfl)
      · exact hjudged.trans (by rw [show (k.smn.health.get u).state = _ from hs]; rfl)
      · exact hjudged.trans (by rw [show (k.smn.health.get u).state = _ from hs]; rfl)
      · rcases hs with hs | hs
        · exact hjudged.trans (by rw [show (k.smn.health.get u).state = _ from hs]; rfl)
        · exact hjudged.trans (by rw [show (k.smn.health.get u).state = _ from hs]; rfl)
    · have hjudged := Control.evaluateHealth_outOfBand e k u hout
      have hmoved := Control.noteReason_setHealth_eq e k u reason
      have hnoted := Control.noteReason_eq k u reason
      refine ⟨fun hs => ?_, fun hs => ?_, fun hs => ?_, fun hs => ?_⟩
      · exact hjudged.trans (by rw [show (k.smn.health.get u).state = _ from hs]; exact hmoved ..)
      · exact hjudged.trans (by rw [show (k.smn.health.get u).state = _ from hs]; exact hmoved ..)
      · exact hjudged.trans (by rw [show (k.smn.health.get u).state = _ from hs]; exact hmoved ..)
      · have hstays : healthMove e k (k.smn.health.get u).state false = none := by
          rcases hs with hs | hs
          · rw [show (k.smn.health.get u).state = _ from hs]; rfl
          · rw [show (k.smn.health.get u).state = _ from hs]; rfl
        exact hjudged.trans (by rw [hstays]; exact hnoted)
    · intro told
      have htold : told = if (e.pcu.get c).state = .noSignal then k.healthNoSignal e u
          else if e.mlr.fresh then k.evaluateHealth e u else k := by
        change k.channelSmn e c = _
        simp only [Control.channelSmn, hc]
      refine ⟨fun hno => ⟨fun hs => ?_, fun hs => ?_⟩, fun hno => ?_⟩
      · rw [htold, if_pos hno]
        exact (if_neg hs).trans (Control.noteReason_setHealth_eq e k u .notTracking .lost .off .noSignal)
      · rw [htold, if_pos hno]
        exact if_pos hs
      · rw [htold, if_neg hno]
  · exact exec_lossDelayExpiry_due u s hr hstate hdue
  · exact exec_returnStableExpiry_due u s hr hstate hdue

/-! ## The arithmetic of an evaluation -/

/-- The angle of a raw lag below one turn lies within half a turn (R29). -/
theorem angleOf_bounds {raw : Nat} (h : raw < 36000) : -17999 ≤ angleOf raw ∧ angleOf raw ≤ 18000 := by
  unfold angleOf
  split <;> omega

/-- The raw lag is below one turn (R29). -/
theorem rawLag_lt {delta period : Nat} (h : 0 < period) : rawLag delta period < 36000 := by
  unfold rawLag
  rw [Nat.div_lt_iff_lt_mul h, Nat.mul_comm 36000]
  exact Nat.mul_lt_mul_of_pos_right (Nat.mod_lt _ h) (by decide)

/-- An angle brought into one turn differs by whole turns (R30). -/
theorem wrapAngle_bounds (a : Int) :
    -17999 ≤ wrapAngle a ∧ wrapAngle a ≤ 18000 ∧ ∃ turns : Int, wrapAngle a = a + 36000 * turns := by
  unfold wrapAngle
  refine ⟨by omega, by omega, (18000 - a) / 36000, by omega⟩

/-- Settles O21, by the bounds of an angle and of its predicted one. -/
theorem anglesLieWithinOneTurn : Obligations.AnglesLieWithinOneTurn := by
  intro e k b x r hperiod m delta raw
  refine ⟨rfl, ?_, fun theta thetaP hangle => ?_, ?_⟩
  · change (if 2147483648 ≤ delta then none else some _) = none ↔ _
    simp
  · change (if 2147483648 ≤ delta then none else some (angleOf raw, wrapAngle (angleOf raw + _))) = _ at hangle
    split at hangle
    · cases hangle
    · injection hangle with hangle
      injection hangle with htheta hthetaP
      have hbounds := angleOf_bounds (rawLag_lt (delta := delta) hperiod)
      obtain ⟨hlow, hhigh, turns, hturns⟩ :=
        wrapAngle_bounds (angleOf raw + advance m.slip (k.common.closingTime.get b))
      subst htheta hthetaP
      exact ⟨fun h => if_pos h, fun h => if_neg (Nat.not_lt.2 h), hbounds.1, hbounds.2, hlow, hhigh, turns, hturns⟩
  · change max (e.mlr.image.volt.get x) (e.mlr.image.volt.get r) - min (e.mlr.image.volt.get x) (e.mlr.image.volt.get r) = _
    omega

end Sys2Proof.Machine
end

section
/-! The expiries that act if they are due, the slot timers, READY, the slot requests and the bias outputs. -/

namespace Sys2Proof.Machine

/-! ## Commands that act if a condition holds -/

section ActIf

variable (s : State) {c : Control → Prop} [DecidablePred c] (f : Control → Control) (hr : s.inReset = false)

include hr

/-- A command whose condition holds acts. -/
theorem State.act_if (hc : c s.blocks) : (s.act fun k => if c k then f k else k) = .next (s.settled (f s.blocks)) := by
  rw [s.act_settled _ hr, if_pos hc]

/-- A command whose condition holds and that tells no one ends with its operation. -/
theorem State.act_if_quiet (hc : c s.blocks) (hn : (f s.blocks).notices = []) :
    (s.act fun k => if c k then f k else k) = .next { s with control := f s.blocks } := by
  rw [s.act_if f hr hc, State.settled_quiet _ _ hn]

/-- A command whose condition fails does nothing to the blocks. -/
theorem State.act_if_not (hc : ¬c s.blocks) :
    (s.act fun k => if c k then f k else k) = .next { s with control := s.blocks } := by
  rw [s.act_settled _ hr, if_neg hc, State.settled_quiet _ _ rfl]

end ActIf

/-! ## Bias outputs -/

/-- Settles O43, by the conditions of the two commands. -/
theorem biasOutputsFollowTheDuties : Obligations.BiasOutputsFollowTheDuties := by
  intro s hr k bias timebase
  have hover : ∀ n, bias.highOver n timebase = true ↔
      bias.duties.get n < 1000 ∧ bias.period * bias.duties.get n / 1000 ≤ (timebase - bias.start).toNat := fun n => by
    rw [Bias.highOver, Bool.and_eq_true, decide_eq_true_eq, decide_eq_true_eq]
    rfl
  refine ⟨fun h => s.act_if_quiet _ hr h rfl, fun h => s.act_if_not _ hr (by rw [Bool.not_eq_true]; exact h),
    fun n => ⟨fun hd hp => ?_, fun hd hp => ?_, fun hd => ?_⟩⟩
  · exact s.act_if_quiet _ hr ((hover n).2 ⟨hd, hp⟩) rfl
  · exact s.act_if_not _ hr fun h => absurd ((hover n).1 h).2 (Nat.not_le.2 hp)
  · exact s.act_if_not _ hr fun h => absurd ((hover n).1 h).1 (Nat.not_lt.2 hd)

/-! ## Slot timers and READY -/

/-- READY at its level alone changes nothing; a new level is taken, with what a change of it brings (R114). -/
theorem exec_readyChange_new (n : Slot) (level : Bool) (s : State) (hr : s.inReset = false)
    (hnew : level ≠ (s.control.slot n).ready) :
    exec (.readyChange n level) s = .next (s.settled (s.blocks.readyChanged s.sensed n level)) := by
  change execReadyChange n level s = _
  rw [execReadyChange, if_neg (Ne.symm hnew), if_neg (by simp [hr])]
  exact s.act_settled _ hr

theorem exec_readyChange_same (n : Slot) (level : Bool) (s : State) (hsame : level = (s.control.slot n).ready) :
    exec (.readyChange n level) s = .next s := if_pos hsame.symm

/-- Every READY input as it is taken (R114). -/
theorem Control.readyChanged_ready (e : Sensed) (n m : Slot) (level : Bool) (k : Control) :
    ((k.readyChanged e n level).slot m).ready = if m = n then level else (k.slot m).ready := by
  have hheld : (k.readyChanged e n level).held = (k.setReady n level).held := by
    unfold Control.readyChanged
    dsimp only
    split <;> simp
  rw [Control.ready_of_held hheld]
  by_cases hm : m = n
  · rw [if_pos hm, hm, Control.setReady, Control.slot_modSlot_same]
  · rw [if_neg hm, Control.setReady, Control.slot_modSlot_other _ _ hm]

section ReadyLost

variable (e : Sensed) (k : Control) (n : Slot)

/-- A loss of READY does nothing in a slot at rest, starting or cooling (R115, R117, R119, R121). -/
theorem Control.readyLost_atRest (h : (k.slot n).state ∈ [.unavailable, .standby, .starting, .cooldown, .failed]) :
    k.readyLost e n = k := by
  unfold Control.readyLost
  simp only [List.mem_cons, List.not_mem_nil, or_false] at h
  rcases h with h | h | h | h | h <;> rw [h]

theorem Control.readyLost_awaiting (h : (k.slot n).state = .awaitingBus) :
    k.readyLost e n = k.failSlot e n .readyLost := by
  unfold Control.readyLost
  rw [h]

theorem Control.readyLost_online (h : (k.slot n).state = .online) :
    k.readyLost e n = ((k.bcuOpen e (slotBreaker n) (.gen n)).1).failSlot e n .readyLost := by
  unfold Control.readyLost
  rw [h]

theorem Control.readyLost_unloading (h : (k.slot n).state = .unloading) :
    k.readyLost e n = (if (k.slot n).openDemanded then k else (k.bcuOpen e (slotBreaker n) (.gen n)).1).failSlot e n
      .readyLost := by
  unfold Control.readyLost
  rw [h]

/-- A slot whose own close is not in flight fails at once (R117). -/
theorem Control.readyLost_noClose (h : (k.slot n).state = .closing ∨ (k.slot n).state = .synchronizing)
    (hown : ownCloseInFlight k n = false) : k.readyLost e n = k.failSlot e n .readyLost := by
  unfold Control.readyLost
  rcases h with h | h
  all_goals
    rw [h]
    exact if_neg (by simp [hown])

/-- A slot whose own close is in flight ends its attempt and its claim and demands its OPEN first (R117). -/
theorem Control.readyLost_ownClose (h : (k.slot n).state = .closing ∨ (k.slot n).state = .synchronizing)
    (hown : ownCloseInFlight k n = true) :
    k.readyLost e n =
      (((match attemptFor k (.gen n) with
        | some m => k.endAttempt e m .cancelled none none
        | none => k).endClaims e (slotBreaker n) (.gen n) .cancelled).bcuOpen e (slotBreaker n) (.gen n)).1.failSlot e n
          .readyLost := by
  unfold Control.readyLost
  rcases h with h | h
  all_goals
    rw [h]
    exact if_pos hown

end ReadyLost

/-- Settles O41, by the loss of READY in each state and the conditions of the timers. -/
theorem slotTimersAndReadyAreTaken : Obligations.SlotTimersAndReadyAreTaken := by
  intro n s hr k r
  have hdue : ∀ state, r.timer.due s.now = true → r.state = state → slotDue s.sensed k n state = true := by
    intro state htimer hstate
    change (decide (r.state = state) && r.timer.due s.now) = true
    simp [hstate, htimer]
  refine ⟨fun ht => ⟨fun h => ?_, fun h => ?_, fun h => ?_, fun h => ?_⟩, fun h ht => ?_, fun level => ?_⟩
  · exact s.act_if _ hr (hdue _ ht h)
  · exact s.act_if _ hr (hdue _ ht h)
  · exact s.act_if _ hr (hdue _ ht h)
  · exact s.act_if _ hr (hdue _ ht h)
  · refine s.act_if_quiet _ hr ?_ rfl
    change (decide (r.state = .unloading) && r.ramp.due s.now) = true
    simp [h, ht]
  · intro k1
    have hstate : (k1.slot n).state = r.state := by rw [Control.slot_modSlot_same]
    have hopen : (k1.slot n).openDemanded = r.openDemanded := by rw [Control.slot_modSlot_same]
    have hown : ownCloseInFlight k1 n = ownCloseInFlight k n := ownCloseInFlight_modSlot ..
    refine ⟨fun h => exec_readyChange_same n level s h, fun h => ⟨_, exec_readyChange_new n level s hr h, fun m => ?_⟩,
      fun hlow hwas => ?_, fun hhigh hwas hstarting hlive => ?_⟩
    · exact (Control.ready_of_held (s.settled_held _) m).trans (Control.readyChanged_ready ..)
    · subst hlow
      have hlost : exec (.readyChange n false) s = .next (s.settled (k1.readyLost s.sensed n)) :=
        exec_readyChange_new n false s hr (by rw [show (s.control.slot n).ready = true from hwas]; decide)
      rw [hlost]
      refine ⟨fun h => ?_, fun h => ?_, fun h => ?_, fun h => ?_, fun h => ⟨fun hc => ?_, fun hc => ?_⟩⟩
      · rw [k1.readyLost_atRest s.sensed n (hstate ▸ h), State.settled_quiet _ _ rfl]
      · rw [k1.readyLost_awaiting s.sensed n (hstate.trans h)]
      · rw [k1.readyLost_online s.sensed n (hstate.trans h)]
      · rw [k1.readyLost_unloading s.sensed n (hstate.trans h), hopen]
      · rw [k1.readyLost_noClose s.sensed n (hstate ▸ h) (hown.trans hc)]
      · exact congrArg (fun x => Host.Outcome.next (s.settled x))
          (k1.readyLost_ownClose s.sensed n (hstate ▸ h) (hown.trans hc))
    · subst hhigh
      rw [exec_readyChange_new n true s hr (by rw [show (s.control.slot n).ready = false from hwas]; decide)]
      have hjudged : ((decide ((k1.slot n).state = .starting) && (k1.slot n).ready) &&
          isLive s.sensed k1 (slotChannel n)) = true := by
        have hready : (k1.slot n).ready = true := by rw [Control.slot_modSlot_same]
        rw [hstate, hstarting, hready]
        exact hlive
      exact congrArg (fun x => Host.Outcome.next (s.settled x)) (if_pos hjudged)

/-! ## Slot requests -/

section SlotRequests

variable (e : Sensed) (k : Control) (n : Slot)

theorem withSlot_some {x : Byte} (h : slotOf x = some n) (owner : Slot → Control → Control × Response) :
    withSlot x owner k = owner n k := by
  rw [withSlot, h]

theorem withSlot_none {x : Byte} (h : slotOf x = none) (owner : Slot → Control → Control × Response) :
    withSlot x owner k = (k, refusal .range) := by
  rw [withSlot, h]

/-! ### START by the state of the slot (R113) -/

theorem Control.startSlot_standby (h : (k.slot n).state = .standby) :
    k.startSlot e n = ((k.portDemand n).setSlotState e n .starting .port, plain .done) := by
  rw [Control.startSlot, h]

theorem Control.startSlot_running
    (h : (k.slot n).state ∈ [.starting, .awaitingBus, .synchronizing, .closing, .online]) :
    k.startSlot e n = (if (k.slot n).demand = .plan then k.portDemand n else k, plain .done) := by
  simp only [List.mem_cons, List.not_mem_nil, or_false] at h
  rcases h with h | h | h | h | h <;> rw [Control.startSlot, h]

theorem Control.startSlot_unavailable (h : (k.slot n).state = .unavailable) :
    k.startSlot e n =
      (k, refusal (if k.outOfService (slotBreaker n) then .outOfService else .inconsistent)) := by
  rw [Control.startSlot, h]

theorem Control.startSlot_busy (h : (k.slot n).state ∈ [.unloading, .cooldown, .failed]) :
    k.startSlot e n = (k, refusal .busy) := by
  simp only [List.mem_cons, List.not_mem_nil, or_false] at h
  rcases h with h | h | h <;> rw [Control.startSlot, h]

/-! ### STOP by the state of the slot (R113) -/

theorem lastSource_iff : lastSource k n = true ↔
    (k.tiu.supply.ba = .gen ∨ k.tiu.supply.bb = .gen) ∧ ∀ m, m ≠ n → (k.slot m).state ≠ .online := by
  simp only [lastSource, someBusInGen, Bool.and_eq_true, Bool.or_eq_true, decide_eq_true_eq, List.all_eq_true,
    Slot.mem_all, true_implies, ne_eq, decide_not, Bool.not_eq_true', decide_eq_false_iff_not, Decidable.or_iff_not_imp_left]

theorem Control.stopSlot_lastSource (h : (k.slot n).state = .online) (hlast : lastSource k n = true) :
    k.stopSlot e n = (k, refusal .lastSource) := by
  simp only [Control.stopSlot, h, hlast, if_true]

theorem Control.stopSlot_online (h : (k.slot n).state = .online) (hlast : lastSource k n = false) :
    k.stopSlot e n = ((k.barSlot n).setSlotState e n .unloading .stop, plain .done) := by
  simp only [Control.stopSlot, h, hlast, Bool.false_eq_true, if_false]

theorem Control.stopSlot_ending (h : (k.slot n).state = .starting ∨ (k.slot n).state = .awaitingBus ∨
    ((k.slot n).state = .synchronizing ∧ ownCloseInFlight k n = false)) :
    k.stopSlot e n = ((k.barSlot n).restSlot e n .stop, plain .done) := by
  rcases h with h | h | ⟨h, hown⟩
  · simp only [Control.stopSlot, h]
  · simp only [Control.stopSlot, h]
  · simp only [Control.stopSlot, h, hown, Bool.false_eq_true, if_false]

theorem Control.stopSlot_deferred (h : (k.slot n).state = .closing ∨
    ((k.slot n).state = .synchronizing ∧ ownCloseInFlight k n = true)) :
    k.stopSlot e n = ((k.barSlot n).deferStop n, plain .accepted) := by
  rcases h with h | ⟨h, hown⟩
  · simp only [Control.stopSlot, h]
  · simp only [Control.stopSlot, h, hown, if_true]

theorem Control.stopSlot_atRest
    (h : (k.slot n).state ∈ [.standby, .unloading, .cooldown, .failed, .unavailable]) :
    k.stopSlot e n = (k.barSlot n, plain .done) := by
  simp only [List.mem_cons, List.not_mem_nil, or_false] at h
  rcases h with h | h | h | h | h <;> simp only [Control.stopSlot, h]

/-! ### RESET_SLOT and BIAS_SET (R113, R119) -/

theorem Control.requestResetSlot_refused {r : Reason} (h : resetSlotRefusal k n = some r) :
    k.requestResetSlot e n = (k, refusal r) := by
  rw [Control.requestResetSlot, h]

theorem Control.requestResetSlot_taken (h : resetSlotRefusal k n = none) :
    k.requestResetSlot e n = (k.clearFault e n, plain .done) := by
  rw [Control.requestResetSlot, h]

variable {d : Nat}

theorem Control.biasSet_range (h : 1000 < d) : k.biasSet d n = (k, refusal .range) := if_pos h

theorem Control.biasSet_notOnline (h : d ≤ 1000) (hs : (k.slot n).state ≠ .online) :
    k.biasSet d n = (k, refusal .inconsistent) := by
  rw [Control.biasSet, if_neg (Nat.not_lt.2 h), if_pos hs]

theorem Control.biasSet_online (h : d ≤ 1000) (hs : (k.slot n).state = .online) :
    k.biasSet d n =
      (k.putSetPoint d n, plain (if k.common.dmin ≤ d ∧ d ≤ k.common.dmax then .done else .clamped)) := by
  rw [Control.biasSet, if_neg (Nat.not_lt.2 h), if_neg (not_not_intro hs)]
  simp only [Bool.and_eq_true, decide_eq_true_eq]

end SlotRequests

/-- Settles O42, by the tables of each request and the forms of an answered request. -/
theorem slotRequestsFollowTheTables : Obligations.SlotRequestsFollowTheTables := by
  refine ⟨fun p x duty s hr hadm hx => ?_, fun p x duty n s hr hadm hx => ?_⟩
  · have hrange := fun owner => s.request_ownerRefused p .operate hr hadm (withSlot_none (s.asked p) hx owner)
    exact ⟨hrange _, hrange _, hrange _, hrange _⟩
  · intro k r done refuse wanted stopped
    have hquiet : k.notices = [] := s.asked_notices p
    have hslot := fun owner => withSlot_some k n hx owner
    -- How each owner's outcome ends its request: refused, taken with what follows, or taken with nothing told.
    have refused : ∀ (owner : Slot → Control → Control × Response) (why : Reason), owner n k = (k, refusal why) →
        s.request p .operate (withSlot x owner) = .next (refuse why) := fun owner why h =>
      s.request_ownerRefused p .operate hr hadm ((hslot owner).trans h)
    have took : ∀ (owner : Slot → Control → Control × Response) (k' : Control) (a : Response), owner n k = (k', a) →
        s.request p .operate (withSlot x owner) = .next (s.settled (k'.respond p a)) := fun owner k' a h =>
      s.request_ownerTook p .operate hr hadm ((hslot owner).trans h)
    have answered : ∀ (owner : Slot → Control → Control × Response) (k' : Control) (a : Response), owner n k = (k', a) →
        k'.notices = [] → s.request p .operate (withSlot x owner) = .next { s with control := k'.respond p a } :=
      fun owner k' a h => s.request_ownerAnswered p .operate hr hadm ((hslot owner).trans h)
    refine ⟨fun h => ?_, fun h => ?_, fun h => ?_, fun h => ?_, fun h => ?_, fun h => ?_, fun h => ?_, fun h => ?_,
      fun h => ?_, fun h => ⟨fun hl => ?_, fun hl => ⟨fun ho => ?_, fun ho => ?_⟩⟩, fun h => ?_,
      fun h => ⟨fun ho => ?_, fun ho => ?_⟩⟩
    · exact took _ _ _ (k.startSlot_standby s.sensed n h)
    · exact answered _ _ _ (k.startSlot_running s.sensed n h) (by split <;> exact hquiet)
    · exact refused _ _ (k.startSlot_unavailable s.sensed n h)
    · exact refused _ _ (k.startSlot_busy s.sensed n h)
    · intro last
      refine ⟨fun hlast => ?_, fun hlast => ?_⟩
      · exact refused _ _ (k.stopSlot_lastSource s.sensed n h ((lastSource_iff k n).2 hlast))
      · exact took _ _ _ (k.stopSlot_online s.sensed n h
          (Bool.eq_false_iff.2 fun hl => hlast ((lastSource_iff k n).1 hl)))
    · exact took _ _ _ (k.stopSlot_ending s.sensed n h)
    · exact answered _ _ _ (k.stopSlot_deferred s.sensed n h) hquiet
    · exact answered _ _ _ (k.stopSlot_atRest s.sensed n h) hquiet
    · exact refused _ _ (k.requestResetSlot_refused s.sensed n (if_pos h))
    · refine refused _ _ (k.requestResetSlot_refused s.sensed n ?_)
      rw [resetSlotRefusal, if_neg (not_not_intro h), if_pos hl]
    · refine refused _ _ (k.requestResetSlot_refused s.sensed n ?_)
      rw [resetSlotRefusal, if_neg (not_not_intro h), if_neg (by simp [hl]), if_pos ho]
    · refine took _ _ _ (k.requestResetSlot_taken s.sensed n ?_)
      rw [resetSlotRefusal, if_neg (not_not_intro h), if_neg (by simp [hl]), if_neg (not_not_intro ho)]
    · exact refused _ _ (k.biasSet_range n h)
    · exact refused _ _ (k.biasSet_notOnline n h ho)
    · exact answered _ _ _ (k.biasSet_online n h ho) hquiet

end Sys2Proof.Machine
end

section
/-! How far the work of TIU, SYE and BCU reaches: the ends of claims, the ends of attempts, a recomputation, and any
operation of a breaker. -/

namespace Sys2Proof.Machine

/-! ## The four reaches -/

/-- What lies within BCU, TIU, SYE, PRU, SST, ERQ and the notices: the other blocks stand. -/
structure Outer (k0 k : Control) : Prop where
  smn : k.smn = k0.smn
  tsq : k.tsq = k0.tsq
  gsc : k.gsc = k0.gsc
  ldm : k.ldm = k0.ldm
  cpi : k.cpi = k0.cpi

/-- What a recomputation reaches: TIU, SYE, ERQ, the notices, and of a breaker record its reservation ended. -/
structure Regrouped (k0 k : Control) : Prop extends Outer k0 k where
  pru : k.pru = k0.pru
  sst : k.sst = k0.sst
  breaker : ∀ b, k.breaker b = k0.breaker b ∨ k.breaker b = { k0.breaker b with holder := none }

/-- What the end of an attempt reaches: of TIU the claims alone; what is told comes after what was told. -/
structure Freed (k0 k : Control) : Prop extends Regrouped k0 k where
  formed : k.tiu.formed = k0.tiu.formed
  supply : k.tiu.supply = k0.tiu.supply
  notices : ∃ told, k.notices = k0.notices ++ told

/-- What the end of a claim reaches: no attempt. -/
structure Claimed (k0 k : Control) : Prop extends Freed k0 k where
  sye : k.sye = k0.sye

/-! ## The ends of claims -/

namespace Claimed

variable {e : Sensed} {k0 k : Control}

theorem refl : Claimed k k where
  smn := rfl
  tsq := rfl
  gsc := rfl
  ldm := rfl
  cpi := rfl
  pru := rfl
  sst := rfl
  breaker _ := .inl rfl
  formed := rfl
  supply := rfl
  notices := ⟨[], (List.append_nil _).symm⟩
  sye := rfl

theorem ite {c : Prop} [Decidable c] {k' : Control} (h : Claimed k0 k) (h' : Claimed k0 k') :
    Claimed k0 (if c then k else k') := by
  split <;> assumption

theorem forEach {α : Type} {l : List α} {f : α → Control → Control} (hf : ∀ a k, Claimed k0 k → Claimed k0 (f a k))
    (h : Claimed k0 k) : Claimed k0 (forEach l f k) := by
  induction l generalizing k with
  | nil => exact h
  | cons a l ih => exact ih (hf a k h)

theorem record {kind : EventKind} {subject : Subject} {cause : Cause} {value : Int} (h : Claimed k0 k) :
    Claimed k0 (k.record e kind subject cause value) := { h with }

theorem tell {ns : List Notice} (h : Claimed k0 k) : Claimed k0 (k.tell ns) := by
  obtain ⟨told, htold⟩ := h.notices
  refine { h with notices := ⟨told ++ ns, ?_⟩ }
  rw [Control.tell, htold, List.append_assoc]

theorem setClaim {c : ClaimBus} {v : Claim} (h : Claimed k0 k) : Claimed k0 (k.setClaim c v) := { h with }

/-- Of a breaker record the reservation alone is ended. -/
theorem unreserve {b : Breaker} (h : Claimed k0 k) :
    Claimed k0 (k.modBreaker b fun r => { r with holder := none }) := by
  refine { h with breaker := fun c => ?_ }
  by_cases hc : c = b
  · rw [hc, Control.breaker_modBreaker_same]
    exact .inr ((h.breaker b).elim (fun h => by rw [h]) fun h => by rw [h])
  · rw [Control.breaker_modBreaker_other _ _ hc]
    exact h.breaker c

theorem releaseReservation {b : Breaker} {x : Holder} (h : Claimed k0 k) : Claimed k0 (k.releaseReservation b x) :=
  ite h.unreserve.tell h

theorem tryGrant {c : ClaimBus} (h : Claimed k0 k) : Claimed k0 (k.tryGrant e c) := by
  unfold Control.tryGrant
  split
  · exact ite h.setClaim.record.tell h
  · exact h

theorem claimOccasion {c : ClaimBus} (h : Claimed k0 k) : Claimed k0 (k.claimOccasion e c) := ite h.tell h.tryGrant

theorem claimOccasions (h : Claimed k0 k) : Claimed k0 (k.claimOccasions e) := h.forEach fun _ _ h => h.claimOccasion

theorem claimLeft {c : ClaimBus} {b : Breaker} {p : Party} {cause : Cause} (h : Claimed k0 k) :
    Claimed k0 (k.claimLeft e c b p cause) := by
  unfold Control.claimLeft
  dsimp only
  split
  · exact ite h.record.tell h.record.tell.releaseReservation
  · exact h.record.tell

theorem endHolder {c : ClaimBus} {cause : Cause} (h : Claimed k0 k) : Claimed k0 (k.endHolder e c cause) := by
  unfold Control.endHolder
  split
  · exact h.setClaim.claimLeft.tryGrant
  · exact h

theorem endWaiting {c : ClaimBus} {b : Breaker} {cause : Cause} (h : Claimed k0 k) :
    Claimed k0 (k.endWaiting e c b cause) := by
  unfold Control.endWaiting
  split
  · exact h.setClaim.claimLeft
  · exact h

theorem endClaims {b : Breaker} {p : Party} {cause : Cause} (h : Claimed k0 k) :
    Claimed k0 (k.endClaims e b p cause) :=
  h.forEach fun _ _ h => ite (ite h.endWaiting h).endHolder (ite h.endWaiting h)

theorem claimServed {b : Breaker} {cause : Cause} (h : Claimed k0 k) : Claimed k0 (k.claimServed e b cause) := by
  refine h.forEach fun c k h => ?_
  split
  · exact ite h.endHolder h
  · exact h

theorem releaseServed {b : Breaker} {op : Operation} (h : Claimed k0 k) : Claimed k0 (k.releaseServed b op) := by
  unfold Control.releaseServed
  split
  · exact h.releaseReservation
  · exact h

theorem resetHolders {c : ClaimBus} {n : Nat} (h : Claimed k0 k) : Claimed k0 (Control.resetHolders e c n k) := by
  induction n generalizing k with
  | zero => exact h
  | succ n ih => exact ite (ih h.endHolder) h

theorem resetClaim {c : ClaimBus} (h : Claimed k0 k) : Claimed k0 (k.resetClaim e c) :=
  h.resetHolders.forEach fun _ _ h => h.endWaiting

theorem releaseAll (h : Claimed k0 k) : Claimed k0 k.releaseAll := by
  refine h.forEach fun b k h => ?_
  split
  · exact h.releaseReservation
  · exact h

end Claimed

/-! ## The end of an attempt -/

theorem Outer.trans {k0 k k' : Control} (h : Outer k0 k) (h' : Outer k k') : Outer k0 k' where
  smn := h'.smn.trans h.smn
  tsq := h'.tsq.trans h.tsq
  gsc := h'.gsc.trans h.gsc
  ldm := h'.ldm.trans h.ldm
  cpi := h'.cpi.trans h.cpi

theorem Regrouped.trans {k0 k k' : Control} (h : Regrouped k0 k) (h' : Regrouped k k') : Regrouped k0 k' where
  toOuter := h.toOuter.trans h'.toOuter
  pru := h'.pru.trans h.pru
  sst := h'.sst.trans h.sst
  breaker b := by
    rcases h'.breaker b with hb | hb
    · exact hb ▸ h.breaker b
    · exact .inr (hb.trans ((h.breaker b).elim (fun h => by rw [h]) fun h => by rw [h]))

/-- A reservation that stands stood before. -/
theorem Regrouped.holder {k0 k : Control} {b : Breaker} {x : Holder} (h : Regrouped k0 k)
    (hx : (k.breaker b).holder = some x) : (k0.breaker b).holder = some x := by
  rcases h.breaker b with hb | hb
  · rwa [hb] at hx
  · rw [hb] at hx
    cases hx

theorem Freed.trans {k0 k k' : Control} (h : Freed k0 k) (h' : Freed k k') : Freed k0 k' where
  toRegrouped := h.toRegrouped.trans h'.toRegrouped
  formed := h'.formed.trans h.formed
  supply := h'.supply.trans h.supply
  notices := by
    obtain ⟨told, htold⟩ := h.notices
    obtain ⟨told', htold'⟩ := h'.notices
    exact ⟨told ++ told', by rw [htold', htold, List.append_assoc]⟩

/-- An attempt ended: its record and place, what is told, its event, and the reservation of a port's (R35). -/
theorem Freed.endAttempt {e : Sensed} {k0 k : Control} {n : AttemptNo} {result : Cause} {fin : Option OpEnd}
    {refusal : Option Reason} (h : Freed k0 k) : Freed k0 (k.endAttempt e n result fin refusal) := by
  unfold Control.endAttempt
  split
  · exact h
  · rename_i a _
    dsimp only
    have hended : ∀ {s : Sye} {told : List Notice} {i : Int},
        Freed k0 ((({ k with sye := s } : Control).tell told).record e .syncResult (.breaker a.breaker) result i) :=
      fun {s told i} => by
        obtain ⟨before, hbefore⟩ := h.notices
        refine { h with notices := ⟨before ++ told, ?_⟩ }
        exact (congrArg (· ++ told) hbefore).trans (List.append_assoc ..)
    split
    · exact hended.trans Claimed.refl.releaseReservation.toFreed
    · exact hended

/-! ## Recomputation -/

/-- A recomputation reaches TIU and the claims (R65 to R67, R76, R80). -/
theorem Regrouped.recompute {e : Sensed} {k0 k : Control} {arrival : Option Breaker} (h : Regrouped k0 k) :
    Regrouped k0 (k.recompute e arrival) := by
  have hsupply : ∀ {k : Control} {l : Bus}, Regrouped k0 k → Regrouped k0 (k.setSupply l) := fun {k l} h => by
    unfold Control.setSupply
    dsimp only
    split
    · exact h
    · exact { h with }
  have hmatched : Regrouped k0 (k.matchOverlaps e arrival) := { h with }
  unfold Control.recompute
  split
  · exact (hsupply (hsupply hmatched)).trans Claimed.refl.claimOccasions.toRegrouped
  · exact h

/-! ## Operations of a breaker -/

namespace Outer

variable {e : Sensed} {k0 k : Control}

theorem refl : Outer k k := Claimed.refl.toOuter

theorem ite {c : Prop} [Decidable c] {k' : Control} (h : Outer k0 k) (h' : Outer k0 k') :
    Outer k0 (if c then k else k') := by
  split <;> assumption

theorem record {kind : EventKind} {subject : Subject} {cause : Cause} {value : Int} (h : Outer k0 k) :
    Outer k0 (k.record e kind subject cause value) := { h with }

theorem tell {ns : List Notice} (h : Outer k0 k) : Outer k0 (k.tell ns) := { h with }

theorem modBreaker {b : Breaker} {f : BreakerRec → BreakerRec} (h : Outer k0 k) : Outer k0 (k.modBreaker b f) :=
  { h with }

theorem modProt {b : Breaker} {f : ProtectionRec → ProtectionRec} (h : Outer k0 k) : Outer k0 (k.modProt b f) :=
  { h with }

theorem setLockout {b : Breaker} {c : Cause} (h : Outer k0 k) : Outer k0 (k.setLockout e b c) := by
  have hchanged : Outer k0 (k.changeLockout e b c) := by
    unfold Control.changeLockout Control.handLockout
    split
    · exact { h with }
    · exact { h with }
  exact ite hchanged (ite h (ite hchanged h))

theorem watchEnded {b : Breaker} {fin : OpEnd} (h : Outer k0 k) : Outer k0 (k.watchEnded e b fin) := by
  unfold Control.watchEnded
  split
  · exact h
  · split
    · exact h.setLockout.modProt.record
    · exact h.modProt

theorem tripTaken {b : Breaker} {c : Cause} (h : Outer k0 k) : Outer k0 (k.tripTaken e b c) := by
  have hfailure : ∀ {k : Control}, Outer k0 k → Outer k0 (k.startFailure e b) := fun h => ite h h.modProt
  cases c
  case overcurrent => exact hfailure (ite h.setLockout h)
  case instantaneous => exact hfailure (ite h.setLockout h)
  case reversePower => exact hfailure h.setLockout
  case overlapExceeded => exact hfailure h.setLockout
  case backup => exact ite h.setLockout h.setLockout.modProt
  all_goals exact h

theorem reportEnd {b : Breaker} {op : Operation} {fin : OpEnd} (h : Outer k0 k) :
    Outer k0 (k.reportEnd e b op fin) := by
  have hclose : Outer k0 ((k.claimServed e b fin.claimCause).releaseServed b op) :=
    h.trans Claimed.refl.claimServed.releaseServed.toOuter
  have hserved := ite (c := op.kind = .close) hclose h
  have hregrouped := hserved.trans (Claimed.refl.toRegrouped.recompute (e := e) (arrival := none)).toOuter
  exact tell (ite hregrouped hregrouped.watchEnded)

theorem cut {b : Breaker} {op : Operation} {kind : OpKind} {p : Party} {c : Cause} (h : Outer k0 k) :
    Outer k0 (k.cut e b op kind p c) := by
  have hbegun : Outer k0 (((k.modBreaker b fun r => { r with closeCoil := false, op := none }).beginOpening e b kind p
    c).record e .operationCut (.breaker b) c (op.age e.now)) := { h with }
  exact reportEnd (ite hbegun.tripTaken hbegun)

theorem takeOpen {b : Breaker} {p : Party} (h : Outer k0 k) : Outer k0 (k.takeOpen e b p).1 := by
  unfold Control.takeOpen
  dsimp only
  split
  · split
    · exact h.modBreaker
    · exact h.modBreaker
  · split
    · exact h.cut
    · exact h.modBreaker

/-- An open demand reaches no block but BCU and those it tells at once (R47, R52). -/
theorem bcuOpen {b : Breaker} {p : Party} (h : Outer k0 k) : Outer k0 (k.bcuOpen e b p).1 := by
  unfold Control.bcuOpen
  split
  · exact h
  · dsimp only
    split
    · exact h.takeOpen.tell
    · exact h.takeOpen

end Outer

end Sys2Proof.Machine
end

section
/-! The load blocks: the block shed first, the timers of LDM, and the requests that name feeders. -/

namespace Sys2Proof.Machine

/-! ## The block shed first (R131) -/

section ShedOrder

variable {k : Control} {f g : Block} {l : List Block}

theorem mem_insertBlock {x : Block} : x ∈ insertBlock k f l ↔ x = f ∨ x ∈ l := by
  induction l with
  | nil => simp [insertBlock]
  | cons g l ih =>
    rw [insertBlock]
    split
    · exact List.mem_cons
    · simp only [List.mem_cons, ih]
      exact or_left_comm

theorem mem_sortBlocks {x : Block} : x ∈ sortBlocks k l ↔ x ∈ l := by
  induction l with
  | nil => rfl
  | cons g l ih => rw [sortBlocks, mem_insertBlock, ih, List.mem_cons]

/-- A block that no other follows goes last. -/
theorem insertBlock_last (h : ∀ g ∈ l, ¬priority k f < priority k g) : insertBlock k f l = l ++ [f] := by
  induction l with
  | nil => rfl
  | cons g l ih =>
    rw [insertBlock, if_neg (h g List.mem_cons_self), ih fun x hx => h x (List.mem_cons_of_mem g hx), List.cons_append]

/-- A block that the last one follows leaves it last. -/
theorem insertBlock_getLast? (hlast : l.getLast? = some f) (hlt : priority k g < priority k f) :
    (insertBlock k g l).getLast? = some f := by
  induction l with
  | nil => cases hlast
  | cons x l ih =>
    rw [insertBlock]
    split
    · rw [List.getLast?_cons_cons, hlast]
    · next hx =>
      cases l with
      | nil =>
        obtain rfl : x = f := Option.some.inj hlast
        exact absurd hlt hx
      | cons y l =>
        rw [List.getLast?_cons_cons] at hlast
        rw [List.getLast?_cons, ih hlast, Option.getD_some]

/-- The block of the highest priority number is the last of the sorted list. -/
theorem sortBlocks_getLast? (hf : f ∈ l) (hmax : ∀ g ∈ l, g ≠ f → priority k g < priority k f) :
    (sortBlocks k l).getLast? = some f := by
  induction l with
  | nil => cases hf
  | cons g l ih =>
    rw [sortBlocks]
    by_cases hg : g = f
    · rw [hg, insertBlock_last, List.getLast?_append, List.getLast?_singleton, Option.some_or]
      intro x hx
      rw [mem_sortBlocks] at hx
      by_cases hxf : x = f
      · rw [hxf]
        exact Nat.lt_irrefl _
      · exact Nat.not_lt.2 (Nat.le_of_lt (hmax x (List.mem_cons_of_mem g hx) hxf))
    · have hl : f ∈ l := (List.mem_cons.1 hf).resolve_left (Ne.symm hg)
      exact insertBlock_getLast? (ih hl fun x hx => hmax x (List.mem_cons_of_mem g hx)) (hmax g List.mem_cons_self hg)

theorem mem_blocks_filter {c : Block → Bool} : f ∈ Block.all.filter c ↔ c f = true := by
  rw [List.mem_filter]
  exact and_iff_right (by cases f <;> decide)

end ShedOrder

section Shed

variable {e : Sensed} {k : Control} {f : Block} {cause : Cause}

/-- Without a GB-fed block nothing is shed. -/
theorem Control.shedOne_none (h : ∀ f, gbFed k f = false) : k.shedOne e cause = k := by
  have hnone : Block.all.filter (gbFed k) = [] := List.filter_eq_nil_iff.2 fun f _ => by rw [h f]; decide
  rw [Control.shedOne, leastCritical, hnone]
  rfl

/-- The GB-fed block of the highest priority number is shed. -/
theorem Control.shedOne_first (hfed : gbFed k f = true)
    (hmax : ∀ g, g ≠ f → gbFed k g = true → k.common.shedPriority.get g < k.common.shedPriority.get f) :
    k.shedOne e cause = (k.shed e f cause).1 := by
  rw [Control.shedOne, leastCritical,
    sortBlocks_getLast? (mem_blocks_filter.2 hfed) fun g hg hne => hmax g hne (mem_blocks_filter.1 hg)]

/-- What a change of a block's state leaves in the block records (R128, R139). -/
theorem Control.setBlock_blockRec (state : BlockState) (g : Block) :
    (k.setBlock f state).blockRec g = if g = f then { k.blockRec f with
      state := state, restoreRequested := if state = .listed then (k.blockRec f).restoreRequested else false }
      else k.blockRec g := by
  by_cases hg : g = f
  · rw [if_pos hg, hg]
    exact Control.blockRec_modBlock_same ..
  · rw [if_neg hg]
    exact Control.blockRec_modBlock_other _ _ hg

/-- A shed is an open demand, and the block OPENING with its cause and event (R131). -/
theorem Control.shed_eq : (k.shed e f cause).1 =
    ((((k.bcuOpen e (blockBreaker f) .load).1.modBlock f fun r => { r with lastShed := cause }).setBlock f
      .opening).record e .blockShed (.breaker (blockBreaker f)) cause (k.common.estimate.get f)) := rfl

theorem Control.record_blockRec (kind : EventKind) (subject : Subject) (value : Int) :
    (k.record e kind subject cause value).blockRec f = k.blockRec f := rfl

/-- The records of LDM after a shed (R128, R130, R131). -/
theorem Control.shed_blockRec (g : Block) :
    (k.shed e f cause).1.blockRec g =
      if g = f then { k.blockRec f with lastShed := cause, state := .opening, restoreRequested := false }
      else k.blockRec g := by
  have hrec : ∀ g, (k.bcuOpen e (blockBreaker f) .load).1.blockRec g = k.blockRec g := fun g =>
    congrArg (fun l : Ldm => l.blocks.get g) Outer.refl.bcuOpen.ldm
  rw [Control.shed_eq, Control.record_blockRec, Control.setBlock_blockRec]
  by_cases hg : g = f
  · rw [if_pos hg, if_pos hg, Control.blockRec_modBlock_same, hrec]
    rfl
  · rw [if_neg hg, if_neg hg, Control.blockRec_modBlock_other _ _ hg, hrec]

/-- A shed block is off the list (R130). -/
theorem Control.shed_shedList : f ∉ (k.shed e f cause).1.ldm.shedList := fun h => by
  have hmem : f ∈ ((k.bcuOpen e (blockBreaker f) .load).1.ldm.shedList.filter (· ≠ f)) := h
  rw [List.mem_filter] at hmem
  exact absurd rfl (of_decide_eq_true hmem.2)

end Shed

/-- Settles O44, by the block the sorted list ends with and the records a shed leaves. -/
theorem loadTimersShedAndRestore : Obligations.LoadTimersShedAndRestore := by
  intro s hr k first
  refine ⟨fun hdue => ?_, fun st cause hst hdue => ?_, fun hdue => s.act_if _ hr hdue, fun f cause => ?_⟩
  · intro t
    refine ⟨fun hnone => ?_, fun f ⟨hfed, hmax⟩ => ?_⟩
    · have hact := s.act_if (c := fun k => k.ldm.overload.due s.now = true)
        (fun k => k.overloadExpired s.sensed) hr hdue
      rw [Control.overloadExpired, Control.shedOne_none hnone] at hact
      exact hact.trans (congrArg _ (State.settled_quiet _ _ rfl))
    · have hact := s.act_if (c := fun k => k.ldm.overload.due s.now = true)
        (fun k => k.overloadExpired s.sensed) hr hdue
      rw [Control.overloadExpired, Control.shedOne_first hfed hmax] at hact
      exact hact
  · intro t
    have hcause : UfStage.cause st = cause := by
      rcases hst with ⟨rfl, rfl⟩ | ⟨rfl, rfl⟩
      · rfl
      · rfl
    have htimer : (if belowUf s.sensed k st then Timer.start s.sensed.now (ufSettings k st).2 else .off) = t :=
      ite_congr (propext (by rw [belowUf, Bool.and_eq_true, decide_eq_true_eq, decide_eq_true_eq]))
        (fun _ => rfl) fun _ => rfl
    have hact := s.act_if (c := fun k => (k.ldm.uf.get st).due s.now = true)
      (fun k => k.ufExpired s.sensed st) hr hdue
    rw [Control.ufExpired, hcause, htimer] at hact
    refine ⟨fun hnone => ?_, fun f ⟨hfed, hmax⟩ => ?_⟩
    · rw [Control.shedOne_none hnone] at hact
      exact hact.trans (congrArg _ (State.settled_quiet _ _ rfl))
    · rw [Control.shedOne_first hfed hmax] at hact
      exact hact
  · intro k'
    have hsame : k'.blockRec f = _ := (Control.shed_blockRec f).trans (if_pos rfl)
    refine ⟨by rw [hsame], by rw [hsame], fun g hg => (Control.shed_blockRec g).trans (if_neg hg),
      Control.shed_shedList, ⟨_, rfl⟩⟩

/-! ## Requests that name feeders (R138 to R140) -/

/-- The blocks a request acts on are those its mask names that meet its condition, in feeder order. -/
theorem namedBlocks_eq (k : Control) (mask : Byte) (cond : Control → Block → Bool) :
    namedBlocks k mask cond = Block.all.filter fun f => mask.getLsbD f.index && cond k f := by
  rw [namedBlocks, maskBlocks, List.filter_filter]
  exact List.filter_congr fun f _ => Bool.and_comm ..

/-- What requesting the restore of some blocks leaves. -/
theorem forEach_wantRestore (l : List Block) (k : Control) :
    forEach l Control.wantRestore k = { k with ldm := { k.ldm with
      blocks := .ofFn fun f => if f ∈ l then { k.blockRec f with restoreRequested := true } else k.blockRec f } } := by
  induction l generalizing k with
  | nil =>
    have hblocks : PerBlock.ofFn k.blockRec = k.ldm.blocks := PerBlock.ext_get fun f => PerBlock.get_ofFn ..
    simp only [List.not_mem_nil, if_false]
    rw [show (PerBlock.ofFn fun f => k.blockRec f) = k.ldm.blocks from hblocks]
    rfl
  | cons g l ih =>
    refine (ih (Control.wantRestore g k)).trans ?_
    have hrec : ∀ f, (Control.wantRestore g k).blockRec f =
        if f = g then { k.blockRec f with restoreRequested := true } else k.blockRec f := fun f => by
      by_cases hf : f = g
      · rw [if_pos hf, hf, Control.wantRestore, Control.blockRec_modBlock_same]
      · rw [if_neg hf, Control.wantRestore, Control.blockRec_modBlock_other _ _ hf]
    simp only [hrec, List.mem_cons]
    have hcases : ∀ f,
        (if f ∈ l then { (if f = g then { k.blockRec f with restoreRequested := true } else k.blockRec f) with
          restoreRequested := true } else if f = g then { k.blockRec f with restoreRequested := true }
          else k.blockRec f) =
        if f = g ∨ f ∈ l then { k.blockRec f with restoreRequested := true } else k.blockRec f := fun f => by
      by_cases hf : f = g
      · simp [hf]
      · simp [hf]
    rw [funext hcases]
    rfl

/-- Settles O45, by the blocks each request names. -/
theorem loadRequestsActOnTheNamedBlocks : Obligations.LoadRequestsActOnTheNamedBlocks := by
  intro p mask s hr hadm k named answer connected listed blocked
  have hconnected : namedBlocks k mask (fun k f => (k.blockRec f).state = .connected) = connected :=
    namedBlocks_eq ..
  have hlisted : namedBlocks k mask (fun k f => (k.blockRec f).state = .listed) = listed := namedBlocks_eq ..
  have hblocked : namedBlocks k mask unblockable = blocked := namedBlocks_eq ..
  refine ⟨s.request_ownerTook p .operate hr hadm ?_, s.request_ownerTook p .operate hr hadm ?_,
    s.request_ownerTook p .operate hr hadm ?_, s.request_ownerTook p .operate hr hadm ?_⟩
  · change Control.shedRequest s.sensed mask k = _
    rw [Control.shedRequest, hconnected, ite_congr (propext List.isEmpty_iff) (fun _ => rfl) fun _ => rfl]
    rfl
  · change Control.restoreRequest s.sensed mask k = _
    rw [Control.restoreRequest, hlisted, forEach_wantRestore]
    rfl
  · change Control.blockRequest mask k = _
    rw [Control.blockRequest, hlisted]
    rfl
  · change Control.unblockRequest mask k = _
    rw [Control.unblockRequest, hblocked]
    rfl

end Sys2Proof.Machine
end

section
/-! The entry of a generator slot into a state: its record, what is told, and the capacity online. -/

namespace Sys2Proof.Machine

/-! ## The capacity online (R119) -/

/-- A sum whose summand at one place of its list rises from 0 rises by that summand. -/
theorem sum_map_raised {l : List Slot} {f g : Slot → Nat} {n : Slot} (hnodup : l.Nodup) (hn : n ∈ l) (hzero : f n = 0)
    (hothers : ∀ m, m ≠ n → g m = f m) : (l.map g).sum = (l.map f).sum + g n := by
  induction l with
  | nil => cases hn
  | cons m l ih =>
    obtain ⟨hm, hl⟩ := List.nodup_cons.1 hnodup
    rw [List.map_cons, List.map_cons, List.sum_cons, List.sum_cons]
    rcases List.mem_cons.1 hn with rfl | hn
    · have hrest : l.map g = l.map f := List.map_congr_left fun x hx => hothers x fun h => hm (h ▸ hx)
      rw [hrest, hzero]
      omega
    · rw [ih hl hn, hothers m fun h => hm (h ▸ hn)]
      omega

/-- A slot that comes ONLINE brings its rating. -/
theorem capacityOnline_raised {k k' : Control} {n : Slot} (hcommon : k'.common = k.common)
    (hothers : ∀ m, m ≠ n → k'.slot m = k.slot m) (hoff : (k.slot n).state ≠ .online)
    (hon : (k'.slot n).state = .online) : capacityOnline k' = capacityOnline k + k.common.rating.get n := by
  have hall : n ∈ Slot.all := by cases n <;> decide
  let share (k : Control) (m : Slot) : Nat := if decide ((k.slot m).state = .online) then k.common.rating.get m else 0
  have hzero : share k n = 0 := if_neg fun h => hoff (of_decide_eq_true h)
  have hrating : share k' n = k.common.rating.get n := by rw [← hcommon]; exact if_pos (decide_eq_true hon)
  have hsum : (Slot.all.map (share k')).sum = (Slot.all.map (share k)).sum + share k' n :=
    sum_map_raised (by decide) hall hzero fun m hm => by simp only [share, hothers m hm, hcommon]
  exact hrating ▸ hsum

/-- A reservation released is no longer that holder's (R60). -/
theorem Control.releaseReservation_holder (k : Control) (b : Breaker) (h : Holder) :
    ((k.releaseReservation b h).breaker b).holder ≠ some h := by
  unfold Control.releaseReservation
  split
  · intro hh
    rw [Control.breaker, Control.tell_bcu] at hh
    change ((k.modBreaker b fun r => { r with holder := none }).breaker b).holder = some h at hh
    rw [Control.breaker_modBreaker_same] at hh
    cases hh
  · assumption

/-! ## The record of the slot -/

/-- A slot takes hold and the settings into account, and no other part of the state (R108). -/
theorem SlotRec.enter_congr {k k' : Control} (htsq : k'.tsq = k.tsq) (hsst : k'.sst = k.sst) (e : Sensed) (r : SlotRec)
    (state : SlotState) (cause : Cause) : r.enter e k' state cause = r.enter e k state cause := by
  have hcommon : k'.common = k.common := congrArg (fun x : Sst => x.working.common) hsst
  have hgroup : k'.group = k.group := congrArg (fun x : Sst => x.working.groups.get x.working.active) hsst
  have hduty : ∀ r, stateDuty k' r state = stateDuty k r state := fun r => by
    cases state <;> simp only [stateDuty, clampDuty, hcommon]
  have htimer : stateTimer e k' state = stateTimer e k state := by
    cases state <;> simp only [stateTimer, hcommon, hgroup]
  simp only [SlotRec.enter, htsq, hduty, htimer]

section Reach

variable (e : Sensed) (k : Control)

/-- SMN at a change of capacity online changes its own record, and records and tells it (R22). -/
theorem Control.capacitySmn_eq :
    ∃ smn erq notices, k.capacitySmn e = { k with smn := smn, erq := erq, notices := notices } := by
  have havailable : ∀ new cause,
      ∃ smn erq notices, k.setAvailable e new cause = { k with smn := smn, erq := erq, notices := notices } :=
    fun new cause => by
      unfold Control.setAvailable
      split
      · exact ⟨_, _, _, rfl⟩
      · exact ⟨_, _, _, rfl⟩
  unfold Control.capacitySmn Control.deriveAvailable
  split
  · exact havailable ..
  · split
    · exact havailable ..
    · exact ⟨_, _, _, rfl⟩

@[simp] theorem Control.capacitySmn_gsc : (k.capacitySmn e).gsc = k.gsc := by
  obtain ⟨_, _, _, h⟩ := k.capacitySmn_eq e
  rw [h]

@[simp] theorem Control.capacitySmn_bcu : (k.capacitySmn e).bcu = k.bcu := by
  obtain ⟨_, _, _, h⟩ := k.capacitySmn_eq e
  rw [h]

/-- A shed reaches LDM, and BCU and those it tells, not GSC (R131). -/
@[simp] theorem Control.shed_gsc (f : Block) (cause : Cause) : (k.shed e f cause).1.gsc = k.gsc :=
  (Outer.refl (k := k)).bcuOpen.gsc

@[simp] theorem Control.shedOne_gsc (cause : Cause) : (k.shedOne e cause).gsc = k.gsc := by
  unfold Control.shedOne
  split
  · exact Control.shed_gsc ..
  · rfl

theorem Control.shedToCapacity_gsc (n : Nat) : (k.shedToCapacity e n).gsc = k.gsc := by
  induction n generalizing k with
  | zero => rfl
  | succ n ih =>
    rw [Control.shedToCapacity]
    split
    · rw [ih, Control.shedOne_gsc]
    · rfl

@[simp] theorem Control.capacityLoss_gsc : (k.capacityLoss e).gsc = k.gsc := by
  unfold Control.capacityLoss
  split
  · exact k.shedToCapacity_gsc e 8
  · rfl

variable (n : Slot) (state : SlotState) (cause : Cause)

/-- The slot's reservation, which its entry into ONLINE ends (R118). -/
def Control.reservationLeft : Control :=
  if state = .online then k.releaseReservation (slotBreaker n) (.gen n) else k

/-- A slot in its new state, with its event and those it tells (R108). -/
def Control.slotEntered : Control :=
  (((k.reservationLeft n state).modSlot n fun r => r.enter e k state cause).record e .slotState (.slot n) cause
    state.number).tell [.slotChanged, .planEvaluation]

theorem Claimed.reservationLeft : Claimed k (k.reservationLeft n state) :=
  Claimed.refl.releaseReservation.ite Claimed.refl

/-- A change of a slot's state, by whether it changes the capacity online (R108, R119). -/
theorem Control.setSlotState_eq : k.setSlotState e n state cause =
    if decide ((k.slot n).state = .online) = decide (state = .online) then k.slotEntered e n state cause
    else (if (k.slot n).state = .online then ((k.slotEntered e n state cause).capacitySmn e).capacityLoss e
      else (k.slotEntered e n state cause).capacitySmn e).tell [.capacityChanged] := by
  have hleft := Claimed.reservationLeft k n state
  unfold Control.slotEntered
  simp only [← SlotRec.enter_congr hleft.tsq hleft.sst]
  unfold Control.setSlotState Control.reservationLeft
  simp only [decide_eq_true_eq]

/-- What GSC holds after a change of a slot's state: the record entered. -/
theorem Control.setSlotState_gsc : (k.setSlotState e n state cause).gsc =
    (k.modSlot n fun r => r.enter e k state cause).gsc := by
  have hentered : (k.slotEntered e n state cause).gsc = (k.modSlot n fun r => r.enter e k state cause).gsc :=
    congrArg (fun g : Gsc => { g with slots := g.slots.modify n fun r => r.enter e k state cause })
      (Claimed.reservationLeft k n state).gsc
  rw [Control.setSlotState_eq]
  split
  · exact hentered
  · split
    · exact ((Control.capacityLoss_gsc ..).trans (Control.capacitySmn_gsc ..)).trans hentered
    · exact (Control.capacitySmn_gsc ..).trans hentered

theorem Control.setSlotState_slot_same :
    (k.setSlotState e n state cause).slot n = (k.slot n).enter e k state cause :=
  (congrArg (fun g : Gsc => g.slots.get n) (k.setSlotState_gsc e n state cause)).trans (Control.slot_modSlot_same ..)

theorem Control.setSlotState_slot_other {m : Slot} (h : m ≠ n) :
    (k.setSlotState e n state cause).slot m = k.slot m :=
  (congrArg (fun g : Gsc => g.slots.get m) (k.setSlotState_gsc e n state cause)).trans
    (Control.slot_modSlot_other _ _ h)

end Reach

/-- What the entry into a state leaves of the record but its demand, duty and timers. -/
theorem SlotRec.enter_kept (e : Sensed) (k : Control) (r : SlotRec) (state : SlotState) (cause : Cause) :
    (r.enter e k state cause).barred = r.barred ∧
      (r.enter e k state cause).setPoint = if state = .online then 500 else r.setPoint := by
  unfold SlotRec.enter
  dsimp only
  split
  · exact ⟨rfl, rfl⟩
  · exact ⟨rfl, rfl⟩

/-- The demand source ends in the states at rest and in FAILED (R109). -/
theorem SlotRec.enter_demand (e : Sensed) (k : Control) (r : SlotRec) (state : SlotState) (cause : Cause) :
    (r.enter e k state cause).demand =
      if state = .standby ∨ state = .unavailable ∨ state = .failed then .none else r.demand := by
  cases state <;> rfl

/-- The duty at entry to a state (R123). -/
theorem SlotRec.enter_duty (e : Sensed) (k : Control) (r : SlotRec) (state : SlotState) (cause : Cause) :
    (r.enter e k state cause).duty = if k.tsq.hold = true ∨ state = .unloading then r.duty
      else if state = .online then clampDuty k 500 else 500 := by
  change (if k.tsq.hold then r.duty else stateDuty k _ state) = _
  by_cases hhold : k.tsq.hold = true
  · rw [if_pos hhold, if_pos (.inl hhold)]
  · rw [if_neg hhold]
    cases state <;> simp [hhold, stateDuty]

/-- Settles O40, by the record a slot enters with and the reach of what follows the change. -/
theorem slotsEnterStates : Obligations.SlotsEnterStates := by
  intro e k n state cause r k' r'
  have hr' : r' = r.enter e k state cause := k.setSlotState_slot_same e n state cause
  have hcommon : k'.common = k.common := Control.common_of_held (k.setSlotState_held e n state cause)
  have hothers : ∀ m, m ≠ n → k'.slot m = k.slot m := fun m hm => k.setSlotState_slot_other e n state cause hm
  have hstate : (k'.slot n).state = state := congrArg SlotRec.state hr'
  have hk' : k' = _ := k.setSlotState_eq e n state cause
  obtain ⟨hbarred, hsetPoint⟩ := r.enter_kept e k state cause
  rw [hr']
  refine ⟨rfl, rfl, SlotRec.enter_ready .., hbarred, SlotRec.enter_demand .., rfl, hsetPoint, SlotRec.enter_duty ..,
    ?_, ?_, ?_, ?_, ?_, fun h => if_neg h, hothers, fun hwas his => ?_, fun hwas his => ⟨?_, ?_⟩, fun hwas his => ?_⟩
  · rintro rfl
    rfl
  · rintro rfl
    rfl
  · rintro rfl
    exact ⟨rfl, rfl⟩
  · rintro rfl
    rfl
  · intro h
    cases state
    case starting | synchronizing | unloading | cooldown => exact absurd (by decide) h
    all_goals rfl
  · rw [if_pos (decide_eq_decide.2 (iff_of_false hwas his))] at hk'
    rw [hk', Control.slotEntered, Control.reservationLeft, if_neg his]
    exact ⟨rfl, rfl⟩
  · exact capacityOnline_raised hcommon hothers hwas (hstate.trans his)
  · rw [if_neg (fun h => hwas ((decide_eq_decide.1 h).2 his)), if_neg hwas] at hk'
    have hbcu : k'.bcu = (k.reservationLeft n state).bcu := by
      rw [hk']
      exact Control.capacitySmn_bcu ..
    have hholder : ((k.reservationLeft n state).breaker (slotBreaker n)).holder ≠ some (.gen n) := by
      rw [Control.reservationLeft, if_pos his]
      exact k.releaseReservation_holder _ _
    rwa [Control.breaker, ← hbcu] at hholder
  · exact (capacityOnline_raised hcommon.symm (fun m hm => (hothers m hm).symm) (fun h => his (hstate ▸ h)) hwas ▸
      hcommon ▸ rfl)

end Sys2Proof.Machine
end

section
/-! The attempt list: where an attempt goes, and what its end leaves. -/

namespace Sys2Proof.Machine

/-! ## The end of an attempt (R35) -/

/-- The record of an attempt that has ended. -/
def Attempt.over (a : Attempt) (result : Cause) (refusal : Option Reason) : Attempt :=
  { a with state := .ended, result := some result, stepPermission := false, issueRefusal := refusal }

/-- An attempt's end without the release of its reservation: its record, its place, its report and its event. -/
def Control.attemptOver (e : Sensed) (k : Control) (n : AttemptNo) (a : Attempt) (result : Cause) (fin : Option OpEnd)
    (refusal : Option Reason) : Control :=
  (({ k with
      sye := { k.sye with
        slots := k.sye.slots.set n (some (a.over result refusal))
        order := k.sye.order.filter (· ≠ n) } } : Control).tell
    [.attemptEnded {
      number := n, breaker := a.breaker, requester := a.requester, result := result, fin := fin
      refusal := refusal }]).record e .syncResult (.breaker a.breaker) result (a.lastThetaP.getD 0)

section EndAttempt

variable {e : Sensed} {k : Control} {n : AttemptNo} {a : Attempt} {result : Cause} {fin : Option OpEnd}
  {refusal : Option Reason}

theorem Control.endAttempt_none (h : k.attempt n = none) : k.endAttempt e n result fin refusal = k := by
  unfold Control.endAttempt
  rw [h]

/-- A port's attempt ends with its reservation. -/
theorem Control.endAttempt_port {p : Port} (h : k.attempt n = some a) (hq : a.requester = .port p) :
    k.endAttempt e n result fin refusal =
      (k.attemptOver e n a result fin refusal).releaseReservation a.breaker (.port p (some n)) := by
  cases a
  subst hq
  unfold Control.endAttempt
  rw [h]
  rfl

/-- An automatic requester keeps its reservation. -/
theorem Control.endAttempt_automatic (h : k.attempt n = some a) (hq : ∀ p, a.requester ≠ .port p) :
    k.endAttempt e n result fin refusal = k.attemptOver e n a result fin refusal := by
  unfold Control.endAttempt
  rw [h]
  dsimp only
  split
  · next p hp => exact absurd hp (hq p)
  · rfl

/-- An attempt's end but for the release of its reservation. -/
theorem Control.endAttempt_over (h : k.attempt n = some a) :
    Claimed (k.attemptOver e n a result fin refusal) (k.endAttempt e n result fin refusal) := by
  by_cases hq : ∃ p, a.requester = .port p
  · obtain ⟨p, hp⟩ := hq
    rw [Control.endAttempt_port h hp]
    exact Claimed.refl.releaseReservation
  · rw [Control.endAttempt_automatic h fun p hp => hq ⟨p, hp⟩]
    exact Claimed.refl

theorem Control.endAttempt_order (h : k.attempt n = some a) :
    (k.endAttempt e n result fin refusal).sye.order = k.sye.order.filter (· ≠ n) :=
  congrArg Sye.order (Control.endAttempt_over h).sye

theorem Control.endAttempt_attempt_same (h : k.attempt n = some a) :
    (k.endAttempt e n result fin refusal).attempt n = some (a.over result refusal) :=
  (congrArg (fun s : Sye => s.slots.get n) (Control.endAttempt_over h).sye).trans (PerAttempt.get_set_same ..)

theorem Control.endAttempt_attempt_other {m : AttemptNo} (hm : m ≠ n) :
    (k.endAttempt e n result fin refusal).attempt m = k.attempt m := by
  cases h : k.attempt n with
  | none => rw [Control.endAttempt_none h]
  | some a =>
    exact (congrArg (fun s : Sye => s.slots.get m) (Control.endAttempt_over h).sye).trans
      (PerAttempt.get_set_other _ _ hm)

end EndAttempt

theorem Control.releaseReservation_erq (k : Control) (b : Breaker) (x : Holder) :
    (k.releaseReservation b x).erq = k.erq := by
  unfold Control.releaseReservation
  split <;> rfl

/-! ## Creation (R25, R26) -/

section Create

variable {e : Sensed} {k : Control} {b : Breaker} {q : Requester}

theorem Control.createAttempt_busy (h : (attemptOn k b).isSome = true) :
    k.createAttempt e b q = (k, .refused .busy) := if_pos h

section NoAttempt

variable (hon : attemptOn k b = none)
include hon

theorem Control.createAttempt_free {n : AttemptNo} (h : freeSlot k = some n) :
    k.createAttempt e b q = (k.placeAttempt e n b q, .attempt n) := by
  unfold Control.createAttempt
  rw [if_neg (by simp [hon]), h]

theorem Control.createAttempt_full_port (h : freeSlot k = none) (hq : ∃ p, q = .port p) :
    k.createAttempt e b q = (k, .refused .noAttemptSlot) := by
  obtain ⟨p, rfl⟩ := hq
  unfold Control.createAttempt
  rw [if_neg (by simp [hon]), h]

theorem Control.createAttempt_full (h : freeSlot k = none) (hnewest : newestPort k = none) :
    k.createAttempt e b q = (k, .refused .noAttemptSlot) := by
  unfold Control.createAttempt
  rw [if_neg (by simp [hon]), h, hnewest]
  cases q <;> rfl

theorem Control.createAttempt_preempts {n : AttemptNo} (h : freeSlot k = none) (hq : ∀ p, q ≠ .port p)
    (hnewest : newestPort k = some n) :
    k.createAttempt e b q = ((k.endAttempt e n .preempted none none).placeAttempt e n b q, .attempt n) := by
  unfold Control.createAttempt
  rw [if_neg (by simp [hon]), h, hnewest]
  cases q with
  | port p => exact absurd rfl (hq p)
  | transfer l => rfl
  | gen n => rfl

end NoAttempt

/-- The newest PORT attempt in EVALUATING is the last of the creation order (R26). -/
theorem newestPort_of_split {older newer : List AttemptNo} {n : AttemptNo} (horder : k.sye.order = older ++ n :: newer)
    (hn : portEvaluating k n = true) (hnewer : ∀ m ∈ newer, ¬portEvaluating k m = true) :
    newestPort k = some n := by
  have hfind : newer.reverse.find? (portEvaluating k) = none :=
    List.find?_eq_none.2 fun m hm => hnewer m (List.mem_reverse.1 hm)
  rw [newestPort, horder, List.reverse_append, List.reverse_cons, List.append_assoc, List.find?_append, hfind,
    List.singleton_append, List.find?_cons, hn]
  rfl

/-- A record placed in a slot of the list: the record, the order, and of BCU a port's reservation (R25, R57). -/
theorem Control.placeAttempt_sye (n : AttemptNo) : (k.placeAttempt e n b q).sye =
    { slots := k.sye.slots.set n (some (newAttempt e k b q)), order := k.sye.order ++ [n] } := by
  unfold Control.placeAttempt
  cases q <;> rfl

end Create

/-- The deadline of an attempt ends it just while it is EVALUATING (R37). -/
theorem exec_attemptDeadline (n : AttemptNo) {a : Attempt} (s : State) (hr : s.inReset = false)
    (ha : s.control.attempt n = some a) : exec (.attemptDeadline n) s = .next (s.settled
      (if a.state = .evaluating && reached a.deadline s.now then s.blocks.endAttempt s.sensed n .timeout none none
        else s.blocks)) := by
  refine (s.act_settled _ hr).trans ?_
  rw [show s.blocks.attempt n = some a from ha]
  rfl

/-- Settles O23, by the slot an attempt takes and the two shapes of its end. -/
theorem attemptEndsInOrder : Obligations.AttemptEndsInOrder := by
  refine ⟨fun e k b q => ?_, fun e k n a result fin refused ha => ?_, fun n a s hr ha =>
    ⟨fun hev hdue => ?_, fun hev => ?_⟩⟩
  · intro full portOpen
    have hfull : full → freeSlot k = none := fun h => (freeSlot_eq_none k).2 fun m => (slotFree_eq_false k m).2 (h m)
    refine ⟨Control.createAttempt_busy, fun hon => ⟨fun n hfree hbelow => ?_, fun h hport => ?_,
      fun h hq older n newer horder hn hnewer => ?_⟩, fun n => ?_⟩
    · exact Control.createAttempt_free hon ((freeSlot_eq_some k n).2
        ⟨(slotFree_eq_true k n).2 hfree, fun m hm => (slotFree_eq_false k m).2 (hbelow m hm)⟩)
    · rcases hport with hp | hnone
      · exact Control.createAttempt_full_port hon (hfull h) hp
      · refine Control.createAttempt_full hon (hfull h) (List.find?_eq_none.2 fun m hm hopen => ?_)
        exact hnone m (List.mem_reverse.1 hm) ((portEvaluating_eq_true k m).1 hopen)
    · exact Control.createAttempt_preempts hon (hfull h) hq (newestPort_of_split horder
        ((portEvaluating_eq_true k n).2 hn) fun m hm hopen => hnewer m hm ((portEvaluating_eq_true k m).1 hopen))
    · intro k'
      have hsye : k'.sye = _ := Control.placeAttempt_sye n
      refine ⟨?_, fun m hm => ?_, congrArg Sye.order hsye, ?_, ?_, fun hq => ?_⟩
      · exact (congrArg (fun s : Sye => s.slots.get n) hsye).trans (PerAttempt.get_set_same ..)
      · exact (congrArg (fun s : Sye => s.slots.get m) hsye).trans (PerAttempt.get_set_other _ _ hm)
      · cases q <;> rfl
      · rintro p rfl
        exact congrArg BreakerRec.holder (Control.breaker_modBreaker_same ..)
      · cases q with
        | port p => exact absurd rfl (hq p)
        | transfer l => rfl
        | gen m => rfl
  · intro k' report
    refine ⟨Control.endAttempt_attempt_same ha, fun m hm => Control.endAttempt_attempt_other hm,
      Control.endAttempt_order ha, ?_, fun p hp hheld => ?_, fun hq => ?_⟩
    · by_cases hq : ∃ p, a.requester = .port p
      · obtain ⟨p, hp⟩ := hq
        rw [show k' = _ from Control.endAttempt_port ha hp, Control.releaseReservation_erq]
        rfl
      · rw [show k' = _ from Control.endAttempt_automatic ha fun p hp => hq ⟨p, hp⟩]
        rfl
    · have hk' : k' = (((k.attemptOver e n a result fin refused).modBreaker a.breaker fun r =>
          { r with holder := none }).tell [.released a.breaker]) :=
        (Control.endAttempt_port ha hp).trans (if_pos hheld)
      rw [hk']
      exact ⟨congrArg BreakerRec.holder (Control.breaker_modBreaker_same ..), List.append_assoc ..⟩
    · rw [show k' = _ from Control.endAttempt_automatic ha hq]
      exact ⟨rfl, rfl⟩
  · rw [exec_attemptDeadline n s hr ha, if_pos (by simp [hev, hdue])]
  · rw [exec_attemptDeadline n s hr ha, if_neg (by simp [hev]), State.settled_quiet _ _ s.blocks_notices]

end Sys2Proof.Machine
end

section
/-! The end procedure of a transfer. -/

namespace Sys2Proof.Machine

/-! ## What the freeing steps reach -/

section Free

variable {e : Sensed} {k0 k : Control}

theorem Control.releaseReservation_tiu (k : Control) (b : Breaker) (x : Holder) :
    (k.releaseReservation b x).tiu = k.tiu := by
  unfold Control.releaseReservation
  split <;> rfl

/-- The end of an attempt leaves topology and claims. -/
theorem Control.endAttempt_tiu (n : AttemptNo) (result : Cause) (fin : Option OpEnd) (refusal : Option Reason) :
    (k.endAttempt e n result fin refusal).tiu = k.tiu := by
  cases h : k.attempt n with
  | none => rw [Control.endAttempt_none h]
  | some a =>
    by_cases hq : ∃ p, a.requester = .port p
    · obtain ⟨p, hp⟩ := hq
      rw [Control.endAttempt_port h hp, Control.releaseReservation_tiu]
      rfl
    · rw [Control.endAttempt_automatic h fun p hp => hq ⟨p, hp⟩]
      rfl

theorem Claimed.letGo {l : Bus} {b : Option Breaker} (h : Claimed k0 k) : Claimed k0 (k.letGo e l b) := by
  unfold Control.letGo
  split
  · exact h.endClaims.releaseReservation
  · exact h

theorem Freed.cancelTransferAttempt {l : Bus} (h : Freed k0 k) : Freed k0 (k.cancelTransferAttempt e l) := by
  unfold Control.cancelTransferAttempt
  split
  · exact h.endAttempt
  · exact h

/-- What a transfer lets go of: its reservation of a breaker. -/
theorem Control.letGo_holder (l : Bus) {b : Breaker} {o : Option Breaker} (hb : o = some b) :
    ((k.letGo e l o).breaker b).holder ≠ some (.transfer l) := by
  subst hb
  exact (k.endClaims e b (.transfer l) .cancelled).releaseReservation_holder b (.transfer l)

/-- What a transfer lets go of: its requests and claims for a breaker. -/
theorem Control.letGo_claims (l : Bus) {b : Breaker} {o : Option Breaker} (c : ClaimBus) (hb : o = some b) :
    hasClaimRequest (k.letGo e l o) c b (.transfer l) = false := by
  subst hb
  have hclear := k.endClaims_clears e b (.transfer l) .cancelled c
  rw [hasClaimRequest_eq_false] at hclear ⊢
  rwa [Control.letGo, Control.releaseReservation_claim]

theorem Control.letGo_keeps (l : Bus) (o : Option Breaker) {c : ClaimBus} {b : Breaker} {p : Party}
    (h : hasClaimRequest k c b p = false) : hasClaimRequest (k.letGo e l o) c b p = false := by
  cases o with
  | none => exact h
  | some a =>
    have hkeep := k.endClaims_keeps e a b (.transfer l) p .cancelled c h
    rw [hasClaimRequest_eq_false] at hkeep ⊢
    rwa [Control.letGo, Control.releaseReservation_claim]

end Free

/-! ## The required capacity (R97) -/

section Required

variable (k : Control)

theorem Control.updateRequired_tsq : k.updateRequired.tsq = { k.tsq with required := requiredCapacity k } := by
  unfold Control.updateRequired
  dsimp only
  split
  · next h => rw [h]
  · rfl

theorem Control.updateRequired_notices : ∃ told, k.updateRequired.notices = k.notices ++ told := by
  unfold Control.updateRequired
  dsimp only
  split
  · exact ⟨[], (List.append_nil _).symm⟩
  · exact ⟨_, rfl⟩

/-- What the required capacity formed anew leaves of blocks whose TSQ is changed. -/
theorem Control.updateRequired_kept {k' : Control} {t : Tsq} (h : k' = { k with tsq := t }) :
    k'.updateRequired.sye = k.sye ∧ k'.updateRequired.bcu = k.bcu ∧ k'.updateRequired.tiu = k.tiu ∧
    k'.updateRequired.gsc.slots = k.gsc.slots ∧ k'.updateRequired.ldm = k.ldm ∧ k'.updateRequired.sst = k.sst := by
  subst h
  unfold Control.updateRequired
  dsimp only
  split
  · exact ⟨rfl, rfl, rfl, rfl, rfl, rfl⟩
  · exact ⟨rfl, rfl, rfl, rfl, rfl, rfl⟩

/-- The required capacity goes by the blocks, the supply states and the settings, and the transfers that need GEN. -/
theorem requiredCapacity_congr {k k' : Control} (hldm : k'.ldm = k.ldm) (htiu : k'.tiu = k.tiu) (hsst : k'.sst = k.sst)
    (hgen : ∀ l, (k'.xfer l).needsGen = (k.xfer l).needsGen) : requiredCapacity k' = requiredCapacity k := by
  have hcommon : k'.common = k.common := congrArg (fun x : Sst => x.working.common) hsst
  have hblock : ∀ f, k'.blockRec f = k.blockRec f := fun f => congrArg (fun x : Ldm => x.blocks.get f) hldm
  simp only [requiredCapacity, estimateSum, hcommon, hblock, htiu, hgen]

end Required

/-! ## The end procedure (R103) -/

section EndTransfer

variable (e : Sensed) (k : Control) (l : Bus) (result : Cause)

/-- The blocks after the steps that free what the transfer used (R103, steps 1 to 3). -/
def Control.transferFreed : Control :=
  ((k.cancelTransferAttempt e l).letGo e l (k.xfer l).arriving).letGo e l (k.xfer l).retiring

/-- The blocks with the record of the ended transfer, before what follows from it (R103, step 4). -/
def Control.transferClosed : Control :=
  { k.transferFreed e l with
    tsq := { k.tsq with
      records := k.tsq.records.modify l fun x => x.ended result
      reserveOrder := k.tsq.reserveOrder.filter (·.1 ≠ l) } }

theorem Control.transferClosed_kept : (k.transferClosed e l result).ldm = (k.transferFreed e l).ldm ∧
    (k.transferClosed e l result).tiu = (k.transferFreed e l).tiu ∧
    (k.transferClosed e l result).sst = (k.transferFreed e l).sst := by
  unfold Control.transferClosed
  exact ⟨rfl, rfl, rfl⟩

theorem Control.transferFreed_letGo : Claimed (k.cancelTransferAttempt e l) (k.transferFreed e l) :=
  Claimed.refl.letGo.letGo

theorem Control.transferFreed_freed : Freed k (k.transferFreed e l) :=
  Claimed.refl.toFreed.cancelTransferAttempt.trans (k.transferFreed_letGo e l).toFreed

/-- The end procedure after its freeing steps. -/
theorem Control.endTransfer_eq : k.endTransfer e l result =
    (((k.transferClosed e l result).updateRequired.modXfer l fun x =>
      { x with recoverArmed := armedAfter (k.transferClosed e l result).updateRequired l result }).record e
        .transferResult (.bus (busClaim l)) result (maskValue (k.xfer l).preShedMask)).tell [.triggers] := by
  unfold Control.transferClosed
  rw [← (k.transferFreed_freed e l).tsq]
  rfl

theorem Control.transferClosed_xfer (m : Bus) :
    (k.transferClosed e l result).updateRequired.xfer m = if m = l then (k.xfer l).ended result else k.xfer m := by
  rw [Control.xfer, Control.updateRequired_tsq]
  by_cases hm : m = l
  · rw [if_pos hm, hm]
    exact PerBus.get_modify_same ..
  · rw [if_neg hm]
    exact PerBus.get_modify_other _ _ hm

/-- RECOVER after an end, by the result and the supply state of the bus (R103, step 6). -/
theorem armedAfter_eq (k : Control) (l : Bus) (result : Cause) : armedAfter k l result =
    if result = .cancelled then false
    else (k.xfer l).recoverArmed || (result ≠ .done && k.tiu.supply.get l = .dead) := by
  unfold armedAfter
  by_cases hdone : result = .done
  · simp [hdone, Cause.arms]
  · by_cases hcancelled : result = .cancelled
    · simp [hcancelled, Cause.arms]
    · have harms : result.arms = true := by
        unfold Cause.arms
        split <;> simp_all
      simp [harms, hdone, hcancelled, Bool.or_comm]

/-- The record of the transfer after its end. -/
theorem Control.endTransfer_xfer_same : (k.endTransfer e l result).xfer l = { k.xfer l with
    result := result
    stepPending := false
    inProgress := false
    stage := none
    timer := .off
    needsGen := false
    retry := false
    recoverArmed :=
      if result = .cancelled then false
      else (k.xfer l).recoverArmed || (result ≠ .done && k.tiu.supply.get l = .dead) } := by
  obtain ⟨-, -, htiu, -, -, -⟩ := Control.updateRequired_kept _ (k' := k.transferClosed e l result) rfl
  have hsupply : (k.transferClosed e l result).updateRequired.tiu.supply = k.tiu.supply :=
    (congrArg Tiu.supply htiu).trans (k.transferFreed_freed e l).supply
  rw [Control.endTransfer_eq]
  refine (Control.xfer_modXfer_same ..).trans ?_
  rw [armedAfter_eq, hsupply, Control.transferClosed_xfer, if_pos rfl]
  rfl

theorem Control.endTransfer_xfer_other {m : Bus} (hm : m ≠ l) : (k.endTransfer e l result).xfer m = k.xfer m := by
  rw [Control.endTransfer_eq]
  refine (Control.xfer_modXfer_other _ _ hm).trans ?_
  rw [Control.transferClosed_xfer, if_neg hm]

/-- What an end leaves outside TSQ, the events and the notices is what its freeing steps leave. -/
theorem Control.endTransfer_kept :
    (k.endTransfer e l result).sye = (k.transferFreed e l).sye ∧
    (k.endTransfer e l result).bcu = (k.transferFreed e l).bcu ∧
    (k.endTransfer e l result).tiu = (k.transferFreed e l).tiu ∧
    (k.endTransfer e l result).gsc.slots = (k.transferFreed e l).gsc.slots ∧
    (k.endTransfer e l result).ldm = (k.transferFreed e l).ldm ∧
    (k.endTransfer e l result).sst = (k.transferFreed e l).sst := by
  have hkept := Control.updateRequired_kept _ (k' := k.transferClosed e l result) rfl
  rw [Control.endTransfer_eq]
  generalize (k.transferClosed e l result).updateRequired = k1 at hkept ⊢
  exact hkept

theorem Control.endTransfer_required :
    (k.endTransfer e l result).tsq.required = requiredCapacity (k.endTransfer e l result) := by
  obtain ⟨-, -, htiu, -, hldm, hsst⟩ := k.endTransfer_kept e l result
  have hrequired : (k.endTransfer e l result).tsq.required = requiredCapacity (k.transferClosed e l result) := by
    rw [Control.endTransfer_eq]
    exact congrArg Tsq.required (Control.updateRequired_tsq _)
  rw [hrequired]
  obtain ⟨hldm', htiu', hsst'⟩ := k.transferClosed_kept e l result
  refine (requiredCapacity_congr (hldm.trans hldm'.symm) (htiu.trans htiu'.symm) (hsst.trans hsst'.symm)
    fun m => ?_).symm
  have hclosed : (k.transferClosed e l result).xfer m = if m = l then (k.xfer l).ended result else k.xfer m := by
    rw [← Control.transferClosed_xfer, Control.xfer, Control.xfer, Control.updateRequired_tsq]
  rw [hclosed]
  by_cases hm : m = l
  · rw [if_pos hm, hm, Control.endTransfer_xfer_same]
    rfl
  · rw [if_neg hm, Control.endTransfer_xfer_other _ _ _ _ hm]

end EndTransfer

/-- Settles O35, by the freeing steps of the procedure and the record it closes. -/
theorem transfersEndByTheProcedure : Obligations.TransfersEndByTheProcedure := by
  intro e k l result x k'
  obtain ⟨hsye, hbcu, htiu, -, -, -⟩ := k.endTransfer_kept e l result
  refine ⟨k.endTransfer_xfer_same e l result, k.endTransfer_xfer_other e l result (by cases l <;> decide),
    fun n a hn ha => ?_, fun b hb => ⟨fun hheld => ?_, fun c => ?_⟩, k.endTransfer_required e l result, ⟨_, rfl⟩, ?_⟩
  · have hended : (k.cancelTransferAttempt e l).attempt n = some (a.over .cancelled none) := by
      rw [Control.cancelTransferAttempt, hn]
      exact Control.endAttempt_attempt_same ha
    exact (congrArg (fun s : Sye => s.slots.get n) (hsye.trans (k.transferFreed_letGo e l).sye)).trans hended
  · have hfreed : ((k.transferFreed e l).breaker b).holder = some (.transfer l) := by
      rwa [Control.breaker, hbcu] at hheld
    rcases hb with hb | hb
    · exact Control.letGo_holder l hb (Claimed.refl.letGo.toRegrouped.holder hfreed)
    · exact Control.letGo_holder l hb hfreed
  · have hclaim : k'.claim c = (k.transferFreed e l).claim c := congrArg (fun t : Tiu => t.claims.get c) htiu
    have hfree : hasClaimRequest (k.transferFreed e l) c b (.transfer l) = false := by
      rcases hb with hb | hb
      · exact Control.letGo_keeps l _ (Control.letGo_claims l c hb)
      · exact Control.letGo_claims l c hb
    rw [hasClaimRequest_eq_false] at hfree ⊢
    rwa [hclaim]
  · obtain ⟨told, htold⟩ := (k.transferFreed_freed e l).notices
    obtain ⟨told', htold'⟩ := (k.transferClosed e l result).updateRequired_notices
    refine ⟨told ++ told', ?_⟩
    rw [← List.append_assoc, ← htold, show k' = _ from k.endTransfer_eq e l result]
    exact congrArg (· ++ [Notice.triggers]) htold'

end Sys2Proof.Machine
end

section
/-! The sequence reset: what each of its parts clears and what the later ones leave. -/

namespace Sys2Proof.Machine

/-! ## A change made for each member of a list -/

/-- What each member's change establishes and no other's undoes holds of every member. -/
theorem forEach_establishes {α : Type} {f : α → Control → Control} {P : α → Control → Prop}
    (hself : ∀ a k, P a (f a k)) (hkeep : ∀ a b k, P b k → P b (f a k)) {l : List α} (k : Control)
    {b : α} (hb : b ∈ l) : P b (forEach l f k) := by
  have hstays : ∀ (l : List α) k, P b k → P b (forEach l f k) := fun l => by
    induction l with
    | nil => exact fun _ h => h
    | cons a l ih => exact fun k h => ih (f a k) (hkeep a b k h)
  induction l generalizing k with
  | nil => cases hb
  | cons a l ih =>
    rcases List.mem_cons.1 hb with rfl | hb
    · exact hstays l _ (hself b k)
    · exact ih (f a k) hb

/-- What no member's change touches stands. -/
theorem forEach_kept {α β : Type} {f : α → Control → Control} {g : Control → β} (h : ∀ a k, g (f a k) = g k)
    (l : List α) (k : Control) : g (forEach l f k) = g k := by
  induction l generalizing k with
  | nil => rfl
  | cons a l ih => exact (ih (f a k)).trans (h a k)

/-! ## Claims ended one after the other (R78) -/

section Claims

variable (e : Sensed) (k : Control) (c : ClaimBus)

theorem Control.tryGrant_claim_other {d : ClaimBus} (h : d ≠ c) : (k.tryGrant e c).claim d = k.claim d := by
  unfold Control.tryGrant
  split
  · split
    · exact Control.claim_setClaim_other _ _ h
    · rfl
  · rfl

/-- A grant shortens the waiting list by the holder it makes. -/
theorem Control.tryGrant_claim_same :
    (k.tryGrant e c).claim c = k.claim c ∨
    (∃ v, ((k.tryGrant e c).claim c).holder = some v) ∧
      ((k.tryGrant e c).claim c).waiting.length + 1 = (k.claim c).waiting.length := by
  unfold Control.tryGrant
  split
  · next r rest _ hw =>
    split
    · have hclaim : ∀ (k : Control) v q ns, (((k.setClaim c v).record e .claimGranted (.bus c) .none q).tell
          ns).claim c = v := fun k v q ns => Control.claim_setClaim_same ..
      rw [hclaim, hw]
      exact .inr ⟨⟨_, rfl⟩, rfl⟩
    · exact .inl rfl
  · exact .inl rfl

theorem Control.endHolder_claim_other (cause : Cause) {d : ClaimBus} (h : d ≠ c) :
    (k.endHolder e c cause).claim d = k.claim d := by
  unfold Control.endHolder
  split
  · rw [Control.tryGrant_claim_other _ _ _ h, Control.claimLeft_claim, Control.claim_setClaim_other _ _ h]
  · rfl

/-- The end of a holder leaves the claim free, or the next of a shorter waiting list in its place. -/
theorem Control.endHolder_claim_same (cause : Cause) {v : ClaimHolder} (h : (k.claim c).holder = some v) :
    (k.endHolder e c cause).claim c = { k.claim c with holder := none } ∨
    (∃ v, ((k.endHolder e c cause).claim c).holder = some v) ∧
      ((k.endHolder e c cause).claim c).waiting.length + 1 = (k.claim c).waiting.length := by
  unfold Control.endHolder
  rw [h]
  dsimp only
  have hleft : ((k.setClaim c { k.claim c with holder := none }).claimLeft e c v.breaker v.party cause).claim c =
      { k.claim c with holder := none } := by
    rw [Control.claimLeft_claim, Control.claim_setClaim_same]
  have hgrant := Control.tryGrant_claim_same e
    ((k.setClaim c { k.claim c with holder := none }).claimLeft e c v.breaker v.party cause) c
  rw [hleft] at hgrant
  exact hgrant

/-- The length of a claim's queue, its holder included. -/
def Claim.size (v : Claim) : Nat := v.waiting.length + v.holder.isSome.toNat

theorem Control.endHolder_size (cause : Cause) {v : ClaimHolder} (h : (k.claim c).holder = some v) :
    ((k.endHolder e c cause).claim c).size + 1 ≤ (k.claim c).size := by
  unfold Claim.size
  rcases k.endHolder_claim_same e c cause h with hfree | ⟨⟨w, hw⟩, hlen⟩
  · rw [hfree, h]
    simp
  · rw [hw, h, ← hlen]
    simp

/-- As many ends as the queue is long leave a claim without a holder. -/
theorem Control.resetHolders_free (n : Nat) (h : (k.claim c).size ≤ n) :
    ((Control.resetHolders e c n k).claim c).holder = none := by
  induction n generalizing k with
  | zero =>
    unfold Claim.size at h
    cases hv : (k.claim c).holder with
    | none => exact hv
    | some v =>
      rw [hv] at h
      simp at h
  | succ n ih =>
    rw [Control.resetHolders]
    cases hv : (k.claim c).holder with
    | none => exact hv
    | some v =>
      have hsize := k.endHolder_size e c .sequenceReset hv
      exact ih _ (by omega)

theorem Control.resetHolders_claim_other {d : ClaimBus} (h : d ≠ c) (n : Nat) :
    (Control.resetHolders e c n k).claim d = k.claim d := by
  induction n generalizing k with
  | zero => rfl
  | succ n ih =>
    rw [Control.resetHolders]
    split
    · rw [ih, Control.endHolder_claim_other _ _ _ _ h]
    · rfl

theorem Control.endWaiting_claim_other (b : Breaker) (cause : Cause) {d : ClaimBus} (h : d ≠ c) :
    (k.endWaiting e c b cause).claim d = k.claim d := by
  unfold Control.endWaiting
  split
  · rw [Control.claimLeft_claim, Control.claim_setClaim_other _ _ h]
  · rfl

/-- The end of a waiting request takes every request of its breaker out, and leaves the holder. -/
theorem Control.endWaiting_claim_same (b : Breaker) (cause : Cause) :
    (k.endWaiting e c b cause).claim c =
      { holder := (k.claim c).holder, waiting := (k.claim c).waiting.filter fun r => r.breaker ≠ b } := by
  unfold Control.endWaiting
  split
  · rw [Control.claimLeft_claim, Control.claim_setClaim_same]
  · next hnone =>
    have hall : (k.claim c).waiting.filter (fun r => r.breaker ≠ b) = (k.claim c).waiting :=
      List.filter_eq_self.2 fun r hr => by simpa using List.find?_eq_none.1 hnone r hr
    rw [hall]

/-- The ends of the waiting requests of some breakers leave those of the others. -/
theorem forEach_endWaiting (cause : Cause) (l : List Breaker) :
    (forEach l (fun b k => k.endWaiting e c b cause) k).claim c =
      { holder := (k.claim c).holder, waiting := (k.claim c).waiting.filter fun r => r.breaker ∉ l } := by
  induction l generalizing k with
  | nil =>
    have hall : (k.claim c).waiting.filter (fun r => r.breaker ∉ ([] : List Breaker)) = (k.claim c).waiting :=
      List.filter_eq_self.2 fun r _ => by simp
    rw [hall]
    rfl
  | cons b l ih =>
    refine (ih _).trans ?_
    have hboth : ((k.claim c).waiting.filter fun r => r.breaker ≠ b).filter (fun r => r.breaker ∉ l) =
        (k.claim c).waiting.filter fun r => r.breaker ∉ b :: l := by
      rw [List.filter_filter]
      exact List.filter_congr fun r _ => by
        rw [Bool.eq_iff_iff]
        simp [and_comm]
    rw [Control.endWaiting_claim_same]
    exact congrArg (fun w => Claim.mk (k.claim c).holder w) hboth

/-- A claim reset is free, with no one waiting. -/
theorem Control.resetClaim_same (h : (k.claim c).waiting.length ≤ 8) :
    (k.resetClaim e c).claim c = { holder := none, waiting := [] } := by
  have hsize : (k.claim c).size ≤ 9 := by
    have : (k.claim c).holder.isSome.toNat ≤ 1 := Bool.toNat_le _
    unfold Claim.size
    omega
  have hfree := Control.resetHolders_free e k c 9 hsize
  rw [Control.resetClaim]
  rw [forEach_endWaiting, hfree]
  congr 1
  exact List.filter_eq_nil_iff.2 fun r hr => by simpa using ⟨r, hr, rfl⟩

theorem Control.resetClaim_other {d : ClaimBus} (h : d ≠ c) : (k.resetClaim e c).claim d = k.claim d := by
  rw [Control.resetClaim]
  rw [forEach_kept (g := fun k => k.claim d) fun b k => k.endWaiting_claim_other e c b _ h,
    Control.resetHolders_claim_other _ _ _ h]

theorem Control.releaseAll_claim : k.releaseAll.claim c = k.claim c :=
  forEach_kept (g := fun k => k.claim c) (fun b k => by
    split
    · exact Control.releaseReservation_claim ..
    · rfl) _ k

end Claims

/-! ## Attempts and transfers ended one after the other -/

section Ends

variable (e : Sensed) (k : Control)

/-- The record a sequence reset leaves of an attempt (R40). -/
def Attempt.resetOver (a : Attempt) : Attempt := if a.state = .ended then a else a.over .sequenceReset none

/-- One attempt's part in a sequence reset. -/
def Control.resetAttempt (n : AttemptNo) : Control :=
  match k.attempt n with
  | some a => if a.inProgress then k.endAttempt e n .sequenceReset none none else k
  | none => k

theorem Control.resetAttempt_attempt_same (n : AttemptNo) :
    (k.resetAttempt e n).attempt n = (k.attempt n).map Attempt.resetOver := by
  unfold Control.resetAttempt
  cases h : k.attempt n with
  | none => exact h
  | some a =>
    by_cases hended : a.state = .ended
    · simp [Attempt.inProgress, Attempt.resetOver, hended, h]
    · simp [Attempt.inProgress, Attempt.resetOver, hended, Control.endAttempt_attempt_same h]

theorem Control.resetAttempt_attempt_other {n m : AttemptNo} (h : m ≠ n) :
    (k.resetAttempt e n).attempt m = k.attempt m := by
  unfold Control.resetAttempt
  split
  · split
    · exact Control.endAttempt_attempt_other h
    · rfl
  · rfl

theorem Attempt.resetOver_idem (a : Attempt) : a.resetOver.resetOver = a.resetOver := by
  unfold Attempt.resetOver
  by_cases h : a.state = .ended
  · rw [if_pos h, if_pos h]
  · rw [if_neg h]
    exact if_pos rfl

/-- Every attempt after a sequence reset of the attempts. -/
theorem Control.resetAttempts_attempt (n : AttemptNo) :
    (k.resetAttempts e).attempt n = (k.attempt n).map Attempt.resetOver := by
  have hlist : ∀ (l : List AttemptNo) (k : Control), (forEach l (fun n k => k.resetAttempt e n) k).attempt n =
      if n ∈ l then (k.attempt n).map Attempt.resetOver else k.attempt n := fun l => by
    induction l with
    | nil => exact fun _ => rfl
    | cons m l ih =>
      intro k
      refine (ih (k.resetAttempt e m)).trans ?_
      by_cases hm : n = m
      · subst hm
        rw [Control.resetAttempt_attempt_same, if_pos List.mem_cons_self, Option.map_map]
        split
        · exact congrArg (Option.map · _) (funext Attempt.resetOver_idem)
        · rfl
      · simp [hm, Control.resetAttempt_attempt_other e k hm]
  exact (hlist AttemptNo.all k).trans (if_pos (by cases n <;> decide))

theorem Control.resetAttempts_ended {n : AttemptNo} {a : Attempt} (h : (k.resetAttempts e).attempt n = some a) :
    a.state = .ended := by
  rw [Control.resetAttempts_attempt, Option.map_eq_some_iff] at h
  obtain ⟨b, -, rfl⟩ := h
  unfold Attempt.resetOver
  split
  · assumption
  · rfl

theorem Freed.resetAttempts : Freed k (k.resetAttempts e) := by
  have hlist : ∀ (l : List AttemptNo) (k : Control),
      Freed k (forEach l (fun n k => k.resetAttempt e n) k) := fun l => by
    induction l with
    | nil => exact fun _ => Claimed.refl.toFreed
    | cons n l ih =>
      intro k
      refine Freed.trans ?_ (ih (k.resetAttempt e n))
      unfold Control.resetAttempt
      split
      · split
        · exact Claimed.refl.toFreed.endAttempt
        · exact Claimed.refl.toFreed
      · exact Claimed.refl.toFreed
  exact hlist AttemptNo.all k

theorem Control.resetAttempts_tiu : (k.resetAttempts e).tiu = k.tiu :=
  forEach_kept (g := Control.tiu) (f := fun n k => k.resetAttempt e n) (fun n k => by
    unfold Control.resetAttempt
    split
    · split
      · exact Control.endAttempt_tiu ..
      · rfl
    · rfl) _ k

/-- One transfer's part in a sequence reset (R107). -/
def Control.resetTransfer (l : Bus) : Control := if (k.xfer l).inProgress then k.endTransfer e l .sequenceReset else k

theorem Control.resetTransfer_same (l : Bus) : ((k.resetTransfer e l).xfer l).inProgress = false := by
  unfold Control.resetTransfer
  split
  · rw [Control.endTransfer_xfer_same]
  · next h => exact Bool.not_eq_true _ ▸ h

theorem Control.resetTransfer_other {l m : Bus} (h : m ≠ l) : (k.resetTransfer e l).xfer m = k.xfer m := by
  unfold Control.resetTransfer
  split
  · exact Control.endTransfer_xfer_other _ _ _ _ h
  · rfl

/-- No transfer is in progress after a sequence reset of the transfers. -/
theorem Control.resetTransfers_idle (l : Bus) : ((k.resetTransfers e).xfer l).inProgress = false :=
  forEach_establishes (P := fun l k => (k.xfer l).inProgress = false) (f := fun l k => k.resetTransfer e l)
    (fun l k => k.resetTransfer_same e l)
    (fun l m k h => by
      by_cases hm : m = l
      · rw [hm]
        exact k.resetTransfer_same e l
      · rwa [Control.resetTransfer_other _ _ hm])
    k (by cases l <;> decide)

/-- With every attempt ended, the end of a transfer leaves the attempt list. -/
theorem Control.resetTransfer_sye (l : Bus) (h : ∀ n a, k.attempt n = some a → a.state = .ended) :
    (k.resetTransfer e l).sye = k.sye := by
  have hnone : attemptFor k (.transfer l) = none := List.find?_eq_none.2 fun n _ => by
    cases ha : k.attempt n with
    | none => simp
    | some a => simp [Attempt.inProgress, h n a ha]
  unfold Control.resetTransfer
  split
  · obtain ⟨hsye, -⟩ := k.endTransfer_kept e l .sequenceReset
    rw [hsye, (k.transferFreed_letGo e l).sye, Control.cancelTransferAttempt, hnone]
  · rfl

theorem Control.resetTransfers_sye (h : ∀ n a, k.attempt n = some a → a.state = .ended) :
    (k.resetTransfers e).sye = k.sye := by
  have hba := k.resetTransfer_sye e .ba h
  have hended : ∀ n a, (k.resetTransfer e .ba).attempt n = some a → a.state = .ended := fun n a ha =>
    h n a (by rwa [Control.attempt, hba] at ha)
  exact ((k.resetTransfer e .ba).resetTransfer_sye e .bb hended).trans hba

end Ends

end Sys2Proof.Machine
end

section
/-! The sequence reset as a whole. -/

namespace Sys2Proof.Machine

/-! ## Waiting lists do not grow -/

/-- No waiting list is longer than before. -/
def Shrinks (k0 k : Control) : Prop := ∀ d, (k.claim d).waiting.length ≤ (k0.claim d).waiting.length

section Shrink

variable {e : Sensed} {k0 k : Control}

theorem Shrinks.refl : Shrinks k k := fun _ => Nat.le_refl _

theorem Shrinks.endHolder {c : ClaimBus} {cause : Cause} (h : Shrinks k0 k) : Shrinks k0 (k.endHolder e c cause) := by
  intro d
  refine Nat.le_trans ?_ (h d)
  by_cases hd : d = c
  · subst hd
    cases hv : (k.claim d).holder with
    | none =>
      have hsame : k.endHolder e d cause = k := by
        unfold Control.endHolder
        rw [hv]
      exact Nat.le_of_eq (congrArg (fun k : Control => (k.claim d).waiting.length) hsame)
    | some v =>
      rcases k.endHolder_claim_same e d cause hv with hfree | ⟨-, hlen⟩
      · exact Nat.le_of_eq ((congrArg (fun v : Claim => v.waiting.length) hfree).trans rfl)
      · omega
  · exact Nat.le_of_eq (congrArg (fun v : Claim => v.waiting.length) (Control.endHolder_claim_other _ _ _ _ hd))

theorem Shrinks.endWaiting {c : ClaimBus} {b : Breaker} {cause : Cause} (h : Shrinks k0 k) :
    Shrinks k0 (k.endWaiting e c b cause) := by
  intro d
  refine Nat.le_trans ?_ (h d)
  by_cases hd : d = c
  · subst hd
    rw [Control.endWaiting_claim_same]
    exact List.length_filter_le ..
  · exact Nat.le_of_eq (congrArg (fun v : Claim => v.waiting.length) (Control.endWaiting_claim_other _ _ _ _ _ hd))

theorem Shrinks.ite {c : Prop} [Decidable c] {k' : Control} (h : Shrinks k0 k) (h' : Shrinks k0 k') :
    Shrinks k0 (if c then k else k') := by
  split <;> assumption

theorem Shrinks.endClaims {b : Breaker} {p : Party} {cause : Cause} (h : Shrinks k0 k) :
    Shrinks k0 (k.endClaims e b p cause) := by
  have hone : ∀ (c : ClaimBus) {k : Control}, Shrinks k0 k →
      let k1 := if waitsForClaim k c b p then k.endWaiting e c b cause else k
      Shrinks k0 (if holdsClaim k1 c b p then k1.endHolder e c cause else k1) :=
    fun c k h => (h.endWaiting.ite h).endHolder.ite (h.endWaiting.ite h)
  exact hone .gb (hone .bb (hone .ba h))

theorem Shrinks.letGo {l : Bus} {o : Option Breaker} (h : Shrinks k0 k) : Shrinks k0 (k.letGo e l o) := by
  cases o with
  | none => exact h
  | some b =>
    intro d
    rw [Control.letGo, Control.releaseReservation_claim]
    exact h.endClaims d

theorem Shrinks.of_tiu {k' : Control} (h : Shrinks k0 k) (htiu : k'.tiu = k.tiu) : Shrinks k0 k' := fun d => by
  rw [Control.claim, htiu]
  exact h d

theorem Shrinks.resetTransfer {l : Bus} (h : Shrinks k0 k) : Shrinks k0 (k.resetTransfer e l) := by
  have hcancelled : (k.cancelTransferAttempt e l).tiu = k.tiu := by
    unfold Control.cancelTransferAttempt
    split
    · exact Control.endAttempt_tiu ..
    · rfl
  obtain ⟨-, -, htiu, -⟩ := k.endTransfer_kept e l .sequenceReset
  exact ((h.of_tiu hcancelled).letGo.letGo.of_tiu htiu).ite h

end Shrink

/-! ## What the ends of a sequence reset leave -/

/-- What the ends of attempts, transfers, claims and reservations leave: slots, blocks and the store, and of a breaker
record all but its reservation. -/
structure Quelled (k0 k : Control) : Prop where
  ldm : k.ldm = k0.ldm
  sst : k.sst = k0.sst
  slots : k.gsc.slots = k0.gsc.slots
  breaker : ∀ b, k.breaker b = k0.breaker b ∨ k.breaker b = { k0.breaker b with holder := none }

section Quell

variable {e : Sensed} {k0 k k' : Control}

theorem Freed.quelled (h : Freed k0 k) : Quelled k0 k where
  ldm := h.ldm
  sst := h.sst
  slots := congrArg Gsc.slots h.gsc
  breaker := h.breaker

theorem Quelled.trans (h : Quelled k0 k) (h' : Quelled k k') : Quelled k0 k' where
  ldm := h'.ldm.trans h.ldm
  sst := h'.sst.trans h.sst
  slots := h'.slots.trans h.slots
  breaker b := by
    rcases h'.breaker b with hb | hb
    · exact hb ▸ h.breaker b
    · exact .inr (hb.trans ((h.breaker b).elim (fun h => by rw [h]) fun h => by rw [h]))

theorem Quelled.resetTransfer {l : Bus} (h : Quelled k0 k) : Quelled k0 (k.resetTransfer e l) := by
  obtain ⟨-, hbcu, -, hslots, hldm, hsst⟩ := k.endTransfer_kept e l .sequenceReset
  have hfreed := (k.transferFreed_freed e l).quelled
  have hend : Quelled k (k.endTransfer e l .sequenceReset) := {
    ldm := hldm.trans hfreed.ldm
    sst := hsst.trans hfreed.sst
    slots := hslots.trans hfreed.slots
    breaker := fun b => by
      rw [Control.breaker, hbcu]
      exact hfreed.breaker b }
  unfold Control.resetTransfer
  split
  · exact h.trans hend
  · exact h

end Quell

/-! ## Reservations -/

/-- After the release of every reservation no breaker has one (R60). -/
theorem Control.releaseAll_holder (k : Control) (b : Breaker) : (k.releaseAll.breaker b).holder = none := by
  have hrelease : ∀ (a b : Breaker) (k : Control) (h : Holder), (k.breaker b).holder = none ∨ (a = b ∧
      (k.breaker b).holder = some h) → ((k.releaseReservation a h).breaker b).holder = none := fun a b k h hb => by
    cases hheld : ((k.releaseReservation a h).breaker b).holder with
    | none => rfl
    | some x =>
      have hbefore := (Claimed.refl (k := k)).releaseReservation.toRegrouped.holder hheld
      rcases hb with hb | ⟨rfl, hb⟩
      · rw [hb] at hbefore
        cases hbefore
      · rw [hb] at hbefore
        exact absurd (hheld.trans hbefore.symm) (k.releaseReservation_holder a h)
  refine forEach_establishes (P := fun b k => (k.breaker b).holder = none) (fun b k => ?_) (fun a b k hb => ?_) k
    (by cases b <;> decide)
  · split
    · next h hh => exact hrelease b b k h (.inr ⟨rfl, hh⟩)
    · assumption
  · split
    · next h _ => exact hrelease a b k h (.inl hb)
    · exact hb

/-! ## Slots (R126) -/

section Slots

variable (e : Sensed) (k : Control) (n : Slot)

/-- Blocks that differ in SMN, GSC, the events and the notices alone. -/
def SlotsAlone (k k' : Control) : Prop :=
  ∃ smn gsc erq notices, k' = { k with smn := smn, gsc := gsc, erq := erq, notices := notices }

theorem SlotsAlone.refl {k : Control} : SlotsAlone k k := ⟨_, _, _, _, rfl⟩

theorem SlotsAlone.trans {k k' k'' : Control} (h : SlotsAlone k k') (h' : SlotsAlone k' k'') : SlotsAlone k k'' := by
  obtain ⟨_, _, _, _, rfl⟩ := h
  obtain ⟨_, _, _, _, rfl⟩ := h'
  exact ⟨_, _, _, _, rfl⟩

/-- A slot that is not ONLINE and holds no reservation changes its state without a shed or a release. -/
theorem SlotsAlone.setSlotState (state : SlotState) (cause : Cause) (hoff : (k.slot n).state ≠ .online)
    (hfree : (k.breaker (slotBreaker n)).holder = none) : SlotsAlone k (k.setSlotState e n state cause) := by
  have hleft : k.reservationLeft n state = k := by
    unfold Control.reservationLeft
    split
    · exact if_neg (by rw [hfree]; exact nofun)
    · rfl
  have hentered : SlotsAlone k (k.slotEntered e n state cause) := by
    unfold Control.slotEntered
    rw [hleft]
    exact ⟨_, _, _, _, rfl⟩
  rw [Control.setSlotState_eq, if_neg hoff]
  split
  · exact hentered
  · obtain ⟨_, _, _, h⟩ := (k.slotEntered e n state cause).capacitySmn_eq e
    rw [h]
    exact hentered.trans ⟨_, _, _, _, rfl⟩

/-- A slot's state after its part of a sequence reset, before its record is cleared. -/
def Control.resetSlotState : Control :=
  match (k.slot n).state with
  | .starting | .awaitingBus => k.setSlotState e n (restState k n) .sequenceReset
  | .synchronizing | .closing =>
    if ownCloseInFlight k n then k else k.setSlotState e n (restState k n) .sequenceReset
  | .unloading => if (k.slot n).openDemanded then k else k.setSlotState e n .online .sequenceReset
  | _ => k

theorem Control.resetSlotSequence_eq : k.resetSlotSequence e n = (k.resetSlotState e n).modSlot n fun r =>
    { r with
      attempt := none
      deferredStop := false
      barred := false
      demand := if r.demand = .plan then .port else r.demand } := by
  unfold Control.resetSlotSequence Control.resetSlotState
  cases (k.slot n).state <;> rfl

/-- The slot stays as it is, or changes its state from one that is not ONLINE. -/
theorem Control.resetSlotState_cases : k.resetSlotState e n = k ∨
    (k.slot n).state ≠ .online ∧ ∃ state, k.resetSlotState e n = k.setSlotState e n state .sequenceReset := by
  unfold Control.resetSlotState
  split
  case h_1 h => exact .inr ⟨by rw [h]; decide, _, rfl⟩
  case h_2 h => exact .inr ⟨by rw [h]; decide, _, rfl⟩
  case h_3 h =>
    split
    · exact .inl rfl
    · exact .inr ⟨by rw [h]; decide, _, rfl⟩
  case h_4 h =>
    split
    · exact .inl rfl
    · exact .inr ⟨by rw [h]; decide, _, rfl⟩
  case h_5 h =>
    split
    · exact .inl rfl
    · exact .inr ⟨by rw [h]; decide, _, rfl⟩
  · exact .inl rfl

theorem SlotsAlone.resetSlotSequence (hfree : (k.breaker (slotBreaker n)).holder = none) :
    SlotsAlone k (k.resetSlotSequence e n) := by
  have hstate : SlotsAlone k (k.resetSlotState e n) := by
    rcases k.resetSlotState_cases e n with h | ⟨hoff, state, h⟩
    · rw [h]
      exact SlotsAlone.refl
    · rw [h]
      exact SlotsAlone.setSlotState e k n state _ hoff hfree
  rw [Control.resetSlotSequence_eq]
  exact hstate.trans ⟨_, _, _, _, rfl⟩

theorem Control.resetSlotSequence_other {m : Slot} (h : m ≠ n) : (k.resetSlotSequence e n).slot m = k.slot m := by
  rw [Control.resetSlotSequence_eq, Control.slot_modSlot_other _ _ h]
  rcases k.resetSlotState_cases e n with hs | ⟨-, state, hs⟩
  · rw [hs]
  · rw [hs, Control.setSlotState_slot_other _ _ _ _ _ h]

/-- A slot with nothing of a sequence left: no deferred stop, no bar, no demand by the plan and no attempt. -/
def SlotRec.Rested (r : SlotRec) : Prop :=
  r.deferredStop = false ∧ r.barred = false ∧ r.demand ≠ .plan ∧ r.attempt = none

theorem Control.resetSlotSequence_rested : ((k.resetSlotSequence e n).slot n).Rested := by
  rw [Control.resetSlotSequence_eq, Control.slot_modSlot_same]
  refine ⟨rfl, rfl, ?_, rfl⟩
  dsimp only
  split
  · decide
  · assumption

/-- Every slot reset. -/
def Control.resetSlots : Control := forEach Slot.all (fun n k => k.resetSlotSequence e n) k

theorem Control.resetSlots_rested : ((k.resetSlots e).slot n).Rested :=
  forEach_establishes (P := fun n k => (k.slot n).Rested) (fun n k => k.resetSlotSequence_rested e n)
    (fun n m k h => by
      by_cases hm : m = n
      · rw [hm]
        exact k.resetSlotSequence_rested e n
      · rwa [Control.resetSlotSequence_other _ _ _ hm])
    k (by cases n <;> decide)

theorem SlotsAlone.resetSlots (hfree : ∀ b, (k.breaker b).holder = none) : SlotsAlone k (k.resetSlots e) := by
  have hlist : ∀ (l : List Slot) (k : Control), (∀ b, (k.breaker b).holder = none) →
      SlotsAlone k (forEach l (fun n k => k.resetSlotSequence e n) k) := fun l => by
    induction l with
    | nil => exact fun _ _ => SlotsAlone.refl
    | cons n l ih =>
      intro k hfree
      have hone := SlotsAlone.resetSlotSequence e k n (hfree _)
      refine hone.trans (ih _ fun b => ?_)
      obtain ⟨_, _, _, _, h⟩ := hone
      rw [h]
      exact hfree b
  exact hlist Slot.all k hfree

end Slots

/-! ## The reset -/

section Reset

variable (e : Sensed) (p : Port) (k : Control)

/-- The blocks with every attempt and transfer ended (R40, R107). -/
def Control.resetSequences : Control :=
  (((k.record e .sequenceReset (.port p) .none 0).resetAttempts e).resetTransfers e)

/-- The blocks with every claim and reservation ended as well (R78, R60). -/
def Control.resetClaims : Control :=
  (forEach ClaimBus.all (fun c k => k.resetClaim e c) (k.resetSequences e p)).releaseAll

theorem Control.sequenceReset_eq :
    k.sequenceReset e p = (((k.resetClaims e p).resetSlots e).resetPacing, ⟨.done, .bytes []⟩) := rfl

theorem Control.resetPacing_slot (n : Slot) : k.resetPacing.slot n = k.slot n := rfl

theorem Claimed.resetClaims : Claimed (k.resetSequences e p) (k.resetClaims e p) :=
  (Claimed.refl.forEach fun _ _ h => h.resetClaim).releaseAll

theorem Quelled.resetClaims : Quelled k (k.resetClaims e p) := by
  have hattempts : Quelled k ((k.record e .sequenceReset (.port p) .none 0).resetAttempts e) :=
    (Claimed.refl.record.toFreed.trans (Freed.resetAttempts e _)).quelled
  have htransfers : Quelled k (k.resetSequences e p) := hattempts.resetTransfer.resetTransfer
  exact htransfers.trans (Claimed.resetClaims e p k).toFreed.quelled

theorem Control.resetClaims_attempt (n : AttemptNo) :
    (k.resetClaims e p).attempt n = (k.attempt n).map Attempt.resetOver := by
  have hsye : (k.resetClaims e p).sye = ((k.record e .sequenceReset (.port p) .none 0).resetAttempts e).sye :=
    (Claimed.resetClaims e p k).sye.trans
      (Control.resetTransfers_sye e _ fun n a h => Control.resetAttempts_ended e _ h)
  rw [Control.attempt, hsye]
  exact Control.resetAttempts_attempt e _ n

/-- Every claim is free after the reset of a waiting list of at most eight. -/
theorem Control.resetClaims_claim (c : ClaimBus) (h : (k.claim c).waiting.length ≤ 8) :
    (k.resetClaims e p).claim c = { holder := none, waiting := [] } := by
  have hshrinks : Shrinks k (k.resetSequences e p) :=
    (Shrinks.refl.of_tiu (Control.resetAttempts_tiu e (k.record e .sequenceReset (.port p) .none
      0))).resetTransfer.resetTransfer
  have hshort := Nat.le_trans (hshrinks c) h
  rw [Control.resetClaims, Control.releaseAll_claim]
  generalize k.resetSequences e p = k1 at hshort ⊢
  change ((((k1.resetClaim e .ba).resetClaim e .bb).resetClaim e .gb).claim c) = _
  cases c with
  | ba => rw [Control.resetClaim_other _ _ _ (by decide), Control.resetClaim_other _ _ _ (by decide),
      Control.resetClaim_same _ _ _ hshort]
  | bb =>
    rw [Control.resetClaim_other _ _ _ (by decide), Control.resetClaim_same]
    rwa [Control.resetClaim_other _ _ _ (by decide)]
  | gb =>
    rw [Control.resetClaim_same]
    rwa [Control.resetClaim_other _ _ _ (by decide), Control.resetClaim_other _ _ _ (by decide)]

end Reset

/-- Settles O39, by what each part of the reset clears and what the parts after it leave. -/
theorem sequenceResetEndsEverything : Obligations.SequenceResetEndsEverything := by
  intro p s hr hadm k k'
  have hk : k' = ((k.resetClaims s.sensed p).resetSlots s.sensed).resetPacing := by
    rw [show k' = (k.sequenceReset s.sensed p).1 from rfl, Control.sequenceReset_eq]
  have hexec := s.request_ownerTook p .operate hr hadm (Prod.ext (x := k.sequenceReset s.sensed p)
    (y := (k', ⟨.done, .bytes []⟩)) rfl (by rw [Control.sequenceReset_eq]))
  have hready : ∀ n, (k'.slot n).ready = (k.slot n).ready := Control.ready_of_held (Control.sequenceReset_held ..)
  clear_value k'
  have hrested : ∀ n, (k'.slot n).Rested := fun n => by
    rw [hk, Control.resetPacing_slot]
    exact (k.resetClaims s.sensed p).resetSlots_rested s.sensed n
  have htsq := (Claimed.resetClaims s.sensed p k).tsq
  have hattempt := k.resetClaims_attempt s.sensed p
  have hclaim := k.resetClaims_claim s.sensed p
  have hquelled := Quelled.resetClaims s.sensed p k
  have hholder : ∀ b, ((k.resetClaims s.sensed p).breaker b).holder = none := fun b => Control.releaseAll_holder _ b
  have hslots := SlotsAlone.resetSlots s.sensed _ hholder
  generalize k.resetClaims s.sensed p = kc at *
  obtain ⟨smn, gsc, erq, notices, hslots⟩ := hslots
  rw [hslots] at hk
  subst hk
  refine ⟨hexec, fun l => ?_, fun n a ha => (hattempt n).trans (by rw [ha]; rfl),
    fun n hn => (hattempt n).trans (by rw [hn]; rfl), hclaim, fun b => ?_, fun n => ?_, fun f => ?_, rfl, rfl,
    hquelled.sst⟩
  · exact (congrArg (fun t : Tsq => (t.records.get l).inProgress) htsq).trans (Control.resetTransfers_idle s.sensed _ l)
  · rcases hquelled.breaker b with h | h
    · rw [← h, ← hholder b]
      rfl
    · exact h
  · obtain ⟨hdeferred, hbarred, hdemand, hnone⟩ := hrested n
    exact ⟨hdeferred, hbarred, hdemand, hnone, hready n⟩
  · refine (PerBlock.get_ofFn ..).trans ?_
    rw [hquelled.ldm]
    rfl

end Sys2Proof.Machine
end

section
/-! Trips: what one leaves in the breaker's record, what PRU makes of it, and the backup of a failed breaker. -/

namespace Sys2Proof.Machine

/-! ## The lockout of a breaker (R154) -/

section Lockout

variable {e : Sensed} {k k' : Control} {b : Breaker} {c : Cause}

theorem Cause.escalation_iff : c.escalation = true ↔ c = .breakerFailure ∨ c = .backupFailed := by
  cases c <;> simp [Cause.escalation]

/-- What the store holds after a lockout changed: written at once, or after the write in flight. -/
def Sst.locked (s : Sst) (now : Word32) (b : Breaker) (c : Cause) : Sst :=
  let s1 := { s with working := { s.working with lockout := s.working.lockout.set b ⟨true, c⟩ } }
  if s.write.isSome then { s1 with pendingLockouts := insertBreaker b s.pendingLockouts }
  else { s1 with write := some { kind := .lockout [b], data := s1.writeData (.lockout [b]), start := now } }

theorem Control.changeLockout_sst : (k.changeLockout e b c).sst = k.sst.locked e.now b c := by
  unfold Control.changeLockout Control.handLockout Sst.locked
  exact apply_ite Control.sst ..

theorem Control.changeLockout_erq : (k.changeLockout e b c).erq = k.erq.append e.now .lockoutSet (.breaker b) c 0 := by
  unfold Control.changeLockout Control.handLockout
  exact (apply_ite Control.erq ..).trans (ite_self _)

/-- A lockout goes by the store alone. -/
theorem Control.setLockout_sst_congr (h : k'.sst = k.sst) : (k'.setLockout e b c).sst = (k.setLockout e b c).sst := by
  have hlockout : k'.lockout b = k.lockout b := congrArg (fun s : Sst => s.working.lockout.get b) h
  have hchange : (k'.changeLockout e b c).sst = (k.changeLockout e b c).sst := by
    rw [Control.changeLockout_sst, Control.changeLockout_sst, h]
  unfold Control.setLockout
  simp only [hlockout, apply_ite Control.sst, h, hchange]

theorem Control.setLockout_pru : (k.setLockout e b c).pru = k.pru := (k.setLockout_frame e b c).1

theorem Control.setLockout_bcu : (k.setLockout e b c).bcu = k.bcu := (k.setLockout_frame e b c).2.1

theorem Control.setLockout_group : (k.setLockout e b c).group = k.group := (k.setLockout_frame e b c).2.2.2.2

theorem Control.setLockout_other {a : Breaker} (ha : a ≠ b) : (k.setLockout e b c).lockout a = k.lockout a :=
  (k.setLockout_frame e b c).2.2.1 a ha

/-- A breaker whose lockout is set is locked out. -/
theorem Control.setLockout_flag : ((k.setLockout e b c).lockout b).flag = true := by
  by_cases hsets : (k.lockout b).flag = false ∨ ((k.lockout b).cause.escalation = false ∧ c.escalation = true)
  · rw [(k.setLockout_sets e b c hsets).2]
  · simp only [not_or, Bool.not_eq_false, not_and, Bool.not_eq_true] at hsets
    obtain ⟨hflag, hcause⟩ := hsets
    rw [k.setLockout_stands e b c hflag]
    · exact hflag
    · by_cases hold : (k.lockout b).cause.escalation = true
      · exact .inl hold
      · exact .inr (hcause (Bool.not_eq_true _ ▸ hold))

end Lockout

/-! ## PRU's notice of a trip (R153, R156, R158) -/

section Notice

variable {e : Sensed} {k k' : Control} {b : Breaker} {c : Cause}

theorem Control.startFailure_pru : (k.startFailure e b).pru =
    if (k.prot b).failure.active then k.pru
    else { k.pru with records := k.pru.records.modify b fun r =>
      { r with failure := .start e.now k.group.failureTime } } := by
  unfold Control.startFailure
  exact apply_ite Control.pru ..

theorem Control.startFailure_sst : (k.startFailure e b).sst = k.sst := by
  unfold Control.startFailure
  exact (apply_ite Control.sst ..).trans (ite_self _)

theorem Control.startFailure_bcu : (k.startFailure e b).bcu = k.bcu := by
  unfold Control.startFailure
  exact (apply_ite Control.bcu ..).trans (ite_self _)

/-- The failure timer starts unless it runs (R156). -/
theorem Control.startFailure_prot : (k.startFailure e b).prot b = { k.prot b with
    failure := if (k.prot b).failure.active then (k.prot b).failure
      else .running (e.now + BitVec.ofNat 32 k.group.failureTime) } := by
  unfold Control.startFailure
  split
  · rfl
  · exact Control.prot_modProt_same ..

theorem Control.startFailure_other {a : Breaker} (ha : a ≠ b) : (k.startFailure e b).prot a = k.prot a := by
  unfold Control.startFailure
  split
  · rfl
  · exact Control.prot_modProt_other _ _ ha

/-- The causes whose notice sets the lockout (R153, R154). -/
def Cause.Locks (c : Cause) (k : Control) (b : Breaker) : Prop :=
  c = .reversePower ∨ c = .overlapExceeded ∨ c = .backup ∨
    ((c = .overcurrent ∨ c = .instantaneous) ∧ k.group.lockoutOnTrip.get b = true)

/-- The blocks with the lockout that the notice of a trip sets. -/
def Control.tripLocked (e : Sensed) (k : Control) (b : Breaker) (c : Cause) : Control :=
  match c with
  | .overcurrent | .instantaneous => if k.group.lockoutOnTrip.get b then k.setLockout e b c else k
  | .reversePower | .overlapExceeded | .backup => k.setLockout e b c
  | _ => k

/-- The blocks with the timer or the watch that the notice of a trip starts. -/
def Control.tripFollowed (e : Sensed) (k : Control) (b : Breaker) (c : Cause) : Control :=
  match c with
  | .overcurrent | .instantaneous | .reversePower | .overlapExceeded => k.startFailure e b
  | .backup =>
    if (k.breaker b).observed = .opened then k else k.modProt b fun r => { r with backupWatch := true }
  | _ => k

/-- A trip's notice sets the lockout first and then what follows it. -/
theorem Control.tripTaken_eq : k.tripTaken e b c = (k.tripLocked e b c).tripFollowed e b c := by
  cases c
  case backup =>
    have hobserved : ((k.setLockout e b .backup).breaker b).observed = (k.breaker b).observed := by
      rw [Control.breaker, Control.setLockout_bcu, Control.breaker]
    unfold Control.tripTaken Control.tripLocked Control.tripFollowed
    dsimp only
    rw [hobserved]
  all_goals rfl

theorem Control.tripLocked_cases : k.tripLocked e b c = k ∧ ¬c.Locks k b ∨
    k.tripLocked e b c = k.setLockout e b c ∧ c.Locks k b := by
  cases c
  case overcurrent | instantaneous =>
    unfold Control.tripLocked Cause.Locks
    by_cases hsetting : k.group.lockoutOnTrip.get b = true
    · exact .inr ⟨if_pos hsetting, by simp [hsetting]⟩
    · exact .inl ⟨if_neg hsetting, by simp [hsetting]⟩
  case reversePower | overlapExceeded | backup => exact .inr ⟨rfl, by simp [Cause.Locks]⟩
  all_goals exact .inl ⟨rfl, by simp [Cause.Locks]⟩

theorem Control.tripLocked_frame : (k.tripLocked e b c).pru = k.pru ∧ (k.tripLocked e b c).bcu = k.bcu ∧
    (k.tripLocked e b c).group = k.group ∧ ∀ a, a ≠ b → (k.tripLocked e b c).lockout a = k.lockout a := by
  rcases k.tripLocked_cases with ⟨h, -⟩ | ⟨h, -⟩
  · rw [h]
    exact ⟨rfl, rfl, rfl, fun _ _ => rfl⟩
  · rw [h]
    exact ⟨Control.setLockout_pru, Control.setLockout_bcu, Control.setLockout_group,
      fun a ha => Control.setLockout_other ha⟩

theorem Control.tripFollowed_sst : (k.tripFollowed e b c).sst = k.sst := by
  cases c
  case overcurrent | instantaneous | reversePower | overlapExceeded => exact Control.startFailure_sst
  case backup =>
    unfold Control.tripFollowed
    exact (apply_ite Control.sst ..).trans (ite_self _)
  all_goals rfl

theorem Control.tripFollowed_bcu : (k.tripFollowed e b c).bcu = k.bcu := by
  cases c
  case overcurrent | instantaneous | reversePower | overlapExceeded => exact Control.startFailure_bcu
  case backup =>
    unfold Control.tripFollowed
    exact (apply_ite Control.bcu ..).trans (ite_self _)
  all_goals rfl

theorem Control.tripTaken_bcu : (k.tripTaken e b c).bcu = k.bcu := by
  rw [Control.tripTaken_eq, Control.tripFollowed_bcu, Control.tripLocked_frame.2.1]

/-- PRU's notice goes by PRU's records, the store, and the observed state of the breaker. -/
theorem Control.tripTaken_congr (hpru : k'.pru = k.pru) (hsst : k'.sst = k.sst)
    (hobs : (k'.breaker b).observed = (k.breaker b).observed) :
    (k'.tripTaken e b c).pru = (k.tripTaken e b c).pru ∧ (k'.tripTaken e b c).sst = (k.tripTaken e b c).sst := by
  have hgroup : k'.group = k.group := congrArg (fun x : Sst => x.working.groups.get x.working.active) hsst
  have hlocked : (k'.tripLocked e b c).sst = (k.tripLocked e b c).sst := by
    cases c
    case overcurrent | instantaneous =>
      unfold Control.tripLocked
      simp only [hgroup, apply_ite Control.sst, hsst, Control.setLockout_sst_congr hsst]
    case reversePower | overlapExceeded | backup => exact Control.setLockout_sst_congr hsst
    all_goals exact hsst
  obtain ⟨hpru', hbcu', hgroup', -⟩ := k'.tripLocked_frame (e := e) (b := b) (c := c)
  obtain ⟨hpru'', hbcu'', hgroup'', -⟩ := k.tripLocked_frame (e := e) (b := b) (c := c)
  rw [Control.tripTaken_eq, Control.tripTaken_eq, Control.tripFollowed_sst, Control.tripFollowed_sst]
  refine ⟨?_, hlocked⟩
  have hrecords : (k'.tripLocked e b c).pru = (k.tripLocked e b c).pru := hpru'.trans (hpru.trans hpru''.symm)
  have hsettings : (k'.tripLocked e b c).group = (k.tripLocked e b c).group :=
    hgroup'.trans (hgroup.trans hgroup''.symm)
  have hobserved : ((k'.tripLocked e b c).breaker b).observed = ((k.tripLocked e b c).breaker b).observed := by
    rw [Control.breaker, hbcu', Control.breaker, hbcu'']
    exact hobs
  generalize k'.tripLocked e b c = l' at hrecords hsettings hobserved ⊢
  generalize k.tripLocked e b c = l at hrecords hsettings hobserved ⊢
  cases c
  case overcurrent | instantaneous | reversePower | overlapExceeded =>
    refine Control.startFailure_pru.trans (Eq.trans ?_ Control.startFailure_pru.symm)
    rw [Control.prot, Control.prot, hrecords, hsettings]
  case backup =>
    unfold Control.tripFollowed
    rw [apply_ite Control.pru, apply_ite Control.pru, hobserved, hrecords, Control.modProt_pru, Control.modProt_pru,
      hrecords]
  all_goals exact hrecords

end Notice

/-! ## The record of a tripped breaker (R48, R52 to R54) -/

section Record

variable {e : Sensed} {k : Control} {b : Breaker} {p : Party} {c : Cause}

/-- The report of a close that has ended reaches a reservation of the breaker, and no other part of BCU, PRU or SST. -/
theorem Regrouped.reportClose {op : Operation} {fin : OpEnd} (h : op.kind = .close) :
    Regrouped k (k.reportEnd e b op fin) := by
  have hserved : Regrouped k ((k.claimServed e b fin.claimCause).releaseServed b op) :=
    Claimed.refl.claimServed.releaseServed.toRegrouped
  unfold Control.reportEnd
  dsimp only
  rw [if_pos h, if_pos h]
  exact (hserved.recompute (arrival := none)).trans Claimed.refl.tell.toRegrouped

/-- The blocks of a cut close before PRU's notice and the report: the new operation in the breaker's record and
OPERATION_CUT (R53). -/
def Control.cutBegun (e : Sensed) (k : Control) (b : Breaker) (op : Operation) (kind : OpKind) (p : Party) (c : Cause) :
    Control :=
  (k.modBreaker b fun r => { r with
    closeCoil := false
    op := some (newOperation e k b kind p c none)
    commanded := .opened
    lastCause := c
    tripCoil := true }).record e .operationCut (.breaker b) c (op.age e.now)

theorem Control.cut_eq {op : Operation} {kind : OpKind} : k.cut e b op kind p c =
    (if kind = .trip then (k.cutBegun e b op kind p c).tripTaken e b c else k.cutBegun e b op kind p c).reportEnd e b op
      (.cut p c) := by
  have hbegun : ((k.modBreaker b fun r => { r with closeCoil := false, op := none }).beginOpening e b kind p c).record e
      .operationCut (.breaker b) c (op.age e.now) = k.cutBegun e b op kind p c := by
    unfold Control.cutBegun Control.beginOpening Control.modBreaker PerBreaker.modify
    cases b <;> rfl
  unfold Control.cut
  dsimp only
  rw [hbegun]

/-- The record of a breaker after a trip, but for its reservation: `new` is the TRIP begun (R48, R52 to R54). -/
def BreakerRec.tripped (r : BreakerRec) (new : Operation) (p : Party) (c : Cause) : BreakerRec :=
  match r.op with
  | none =>
    if r.observed = .opened then { r with commanded := .opened, lastCause := c }
    else { r with op := some new, commanded := .opened, lastCause := c, tripCoil := true }
  | some op => match op.kind with
    | .close =>
      { r with closeCoil := false, op := some new, commanded := .opened, lastCause := c, tripCoil := true }
    | .opening => { r with op := some { op with kind := .trip, party := p, cause := c }, lastCause := c }
    | .trip => { r with lastCause := c }

/-- The blocks with the record of a tripped breaker, and what is recorded and told of it before PRU's notice. -/
theorem Control.bcuTrip_eq : ∃ k1 : Control,
    k1.breaker b = (k.breaker b).tripped (newOperation e k b .trip p c none) p c ∧ k1.pru = k.pru ∧ k1.sst = k.sst ∧
    Regrouped (k1.tripTaken e b c) (k.bcuTrip e b p c) := by
  have hmod : ∀ (f : BreakerRec → BreakerRec), (k.modBreaker b f).breaker b = f (k.breaker b) := fun f =>
    Control.breaker_modBreaker_same ..
  unfold Control.bcuTrip BreakerRec.tripped
  cases hop : (k.breaker b).op with
  | none =>
    dsimp only
    by_cases hobs : (k.breaker b).observed = .opened
    · rw [if_pos hobs, if_pos hobs]
      exact ⟨k.acknowledge b true c, (hmod _).trans (by simp [hop]), rfl, rfl, Claimed.refl.toRegrouped⟩
    · rw [if_neg hobs, if_neg hobs]
      exact ⟨k.beginOpening e b .trip p c, hmod _, rfl, rfl, Claimed.refl.toRegrouped⟩
  | some op =>
    dsimp only
    cases hkind : op.kind with
    | close =>
      dsimp only
      rw [Control.cut_eq, if_pos rfl]
      exact ⟨k.cutBegun e b op .trip p c, hmod _, rfl, rfl, Regrouped.reportClose hkind⟩
    | opening =>
      refine ⟨k.relabel b op p c, ?_, ?_, ?_, Claimed.refl.toRegrouped⟩
      · unfold Control.relabel
        dsimp only
        split <;> exact hmod _
      · unfold Control.relabel
        dsimp only
        split <;> rfl
      · unfold Control.relabel
        dsimp only
        split <;> rfl
    | trip => exact ⟨k.acknowledge b false c, (hmod _).trans (by simp [hop]), rfl, rfl, Claimed.refl.toRegrouped⟩

theorem Control.bcuTrip_breaker : ∃ x, (k.bcuTrip e b p c).breaker b =
    { (k.breaker b).tripped (newOperation e k b .trip p c none) p c with holder := x } := by
  obtain ⟨k1, hbreaker, -, -, hrest⟩ := Control.bcuTrip_eq (e := e) (k := k) (b := b) (p := p) (c := c)
  rw [← hbreaker, ← show (k1.tripTaken e b c).breaker b = k1.breaker b from
    congrArg (fun t : PerBreaker BreakerRec => t.get b) Control.tripTaken_bcu]
  rcases hrest.breaker b with h | h
  · exact ⟨_, h⟩
  · exact ⟨_, h⟩

theorem BreakerRec.tripped_observed (r : BreakerRec) (new : Operation) : (r.tripped new p c).observed = r.observed := by
  unfold BreakerRec.tripped
  split
  · split <;> rfl
  · split <;> rfl

/-- A trip's notice reaches PRU as it would before the trip: a cut close changes nothing of PRU or the store. -/
theorem Control.bcuTrip_noticed : (k.bcuTrip e b p c).pru = (k.tripTaken e b c).pru ∧
    (k.bcuTrip e b p c).sst = (k.tripTaken e b c).sst := by
  obtain ⟨k1, hbreaker, hpru, hsst, hrest⟩ := Control.bcuTrip_eq (e := e) (k := k) (b := b) (p := p) (c := c)
  rw [hrest.pru, hrest.sst]
  exact Control.tripTaken_congr hpru hsst (by rw [hbreaker, BreakerRec.tripped_observed])

end Record

/-- Settles O27, by the record a trip leaves, for each operation in flight. -/
theorem tripIsAlwaysTaken : Obligations.TripIsAlwaysTaken := by
  intro e k b p c hsound r r'
  obtain ⟨x, hx⟩ := Control.bcuTrip_breaker (e := e) (k := k) (b := b) (p := p) (c := c)
  change r' = { r.tripped (newOperation e k b .trip p c none) p c with holder := x } at hx
  clear_value r'
  subst hx
  change r.CoilsSound at hsound
  have hkind : (newOperation e k b .trip p c none).kind = .trip := rfl
  generalize newOperation e k b .trip p c none = new at hkind ⊢
  unfold BreakerRec.tripped
  cases hop : r.op with
  | none =>
    obtain ⟨hclose, htrip⟩ := (BreakerRec.coilsSound_of_none hop).1 hsound
    by_cases hobs : r.observed = .opened
    · simp [hobs, BreakerRec.CoilsSound, hclose, htrip]
    · simp [hobs, BreakerRec.CoilsSound, hclose, hkind]
  | some op =>
    cases hk : op.kind with
    | close =>
      obtain ⟨hclose, htrip⟩ := (BreakerRec.coilsSound_of_close hop hk).1 hsound
      simp [hk, BreakerRec.CoilsSound, hkind]
    | opening =>
      obtain ⟨hclose, htrip⟩ := (BreakerRec.coilsSound_of_opening hop (by simp [hk])).1 hsound
      simp [hk, BreakerRec.CoilsSound, hclose, htrip]
    | trip =>
      obtain ⟨hclose, htrip⟩ := (BreakerRec.coilsSound_of_opening hop (by simp [hk])).1 hsound
      simp [hk, BreakerRec.CoilsSound, hclose, htrip]

/-! ## Backup (R157, R158) -/

section Backup

variable {e : Sensed} {k : Control} {b : Breaker}

theorem breakerFailed_iff : breakerFailed e k b = true ↔ (k.breaker b).observed ≠ .opened ∨
    (e.mlr.fresh = true ∧ k.group.failureCurrent ≤ e.mlr.image.curr.get b) := by
  simp [breakerFailed]

/-- A lockout leaves which breakers are possibly closed. -/
theorem possiblyClosed_setLockout (c : Cause) (a : Breaker) :
    possiblyClosed (k.setLockout e b c) a = possiblyClosed k a := by
  have hservice : (k.setLockout e b c).outOfService a = k.outOfService a :=
    congrArg (fun t : PerBreaker Bool => t.get a)
      (Control.outOfServiceFlags_of_held (k.setLockout_held e b c))
  have hbreaker : (k.setLockout e b c).breaker a = k.breaker a := by
    rw [Control.breaker, Control.setLockout_bcu, Control.breaker]
  simp only [possiblyClosed, closing, hservice, hbreaker]

/-- The failure timer's expiry on a breaker that has not failed (R157). -/
theorem Control.failureExpired_spared
    (h : breakerFailed e (k.modProt b fun r => { r with failure := .off }) b = false) :
    k.failureExpired e b = k.modProt b fun r => { r with failure := .off } := by
  unfold Control.failureExpired
  dsimp only
  rw [h]
  rfl

/-- The failure timer's expiry on a breaker that has failed (R157). -/
theorem Control.failureExpired_failed (h : breakerFailed e (k.modProt b fun r => { r with failure := .off }) b = true) :
    k.failureExpired e b =
      (forEach ((backupSet b).filter (possiblyClosed (k.modProt b fun r => { r with failure := .off })))
        (fun c k => k.bcuTrip e c .protection .backup)
        ((k.modProt b fun r => { r with failure := .off }).setLockout e b .breakerFailure)).record e .backupTrip
          (.breaker b) .breakerFailure
          ((backupSet b).filter (possiblyClosed (k.modProt b fun r => { r with failure := .off }))).length := by
  have hclosed := possiblyClosed_setLockout (e := e) (k := k.modProt b fun r => { r with failure := .off }) (b := b)
    .breakerFailure
  unfold Control.failureExpired
  dsimp only
  rw [if_pos h, funext hclosed]

/-- The end of a watched operation that fails leaves BACKUP_FAILED (R158). -/
theorem Control.watchEnded_failed {result : Cause} (h : (k.prot b).backupWatch = true) :
    k.watchEnded e b (.failed result) =
      ((k.setLockout e b .backupFailed).modProt b fun r => { r with backupWatch := false }).record e .backupFailed
        (.breaker b) result (if b = .i1 || b = .i2 then 1 else 0) := by
  unfold Control.watchEnded
  rw [if_neg (by simp [h])]

theorem Control.watchEnded_ended {fin : OpEnd} (h : (k.prot b).backupWatch = true)
    (hfin : ∀ result, fin ≠ .failed result) :
    k.watchEnded e b fin = k.modProt b fun r => { r with backupWatch := false } := by
  unfold Control.watchEnded
  rw [if_neg (by simp [h])]
  cases fin with
  | failed result => exact absurd rfl (hfin result)
  | completed => rfl
  | cut p c => rfl

theorem Control.watchEnded_unwatched {fin : OpEnd} (h : (k.prot b).backupWatch = false) : k.watchEnded e b fin = k := by
  unfold Control.watchEnded
  exact if_pos (by simp [h])

end Backup

/-! ## What the notice of a trip leaves -/

section Notices

variable {e : Sensed} {k : Control} {b : Breaker} {c : Cause}

theorem Control.prot_congr {k' : Control} (h : k'.pru = k.pru) (a : Breaker) : k'.prot a = k.prot a :=
  congrArg (fun x : Pru => x.records.get a) h

theorem Control.lockout_congr {k' : Control} (h : k'.sst = k.sst) (a : Breaker) : k'.lockout a = k.lockout a :=
  congrArg (fun x : Sst => x.working.lockout.get a) h

/-- A first cause that locks sets the lockout, and none changes it while it stands (R154). -/
theorem Control.tripTaken_locks (hlocks : c.Locks k b) (hflag : (k.lockout b).flag = false) :
    (k.tripTaken e b c).lockout b = ⟨true, c⟩ := by
  rw [Control.tripTaken_eq, Control.lockout_congr Control.tripFollowed_sst]
  rcases k.tripLocked_cases with ⟨-, hnot⟩ | ⟨h, -⟩
  · exact absurd hlocks hnot
  · rw [h]
    exact (k.setLockout_sets e b c (.inl hflag)).2

theorem Control.tripTaken_stands (h : ¬c.Locks k b ∨ (k.lockout b).flag = true) :
    (k.tripTaken e b c).sst = k.sst := by
  rw [Control.tripTaken_eq, Control.tripFollowed_sst]
  rcases k.tripLocked_cases with ⟨heq, -⟩ | ⟨heq, hlocks⟩
  · rw [heq]
  · have hfirst : c.escalation = false := by
      rcases hlocks with rfl | rfl | rfl | ⟨rfl | rfl, -⟩ <;> rfl
    rw [heq, k.setLockout_stands e b c (h.resolve_left fun hnot => hnot hlocks) (.inr hfirst)]

theorem Control.tripFollowed_other {a : Breaker} (ha : a ≠ b) : (k.tripFollowed e b c).prot a = k.prot a := by
  cases c
  case overcurrent | instantaneous | reversePower | overlapExceeded => exact Control.startFailure_other ha
  case backup =>
    unfold Control.tripFollowed
    dsimp only
    split
    · rfl
    · exact Control.prot_modProt_other _ _ ha
  all_goals rfl

/-- The failure timer after the notice of a trip (R156). -/
theorem Control.tripTaken_failure
    (h : c = .overcurrent ∨ c = .instantaneous ∨ c = .reversePower ∨ c = .overlapExceeded) :
    (k.tripTaken e b c).prot b = { k.prot b with
      failure := if (k.prot b).failure.active then (k.prot b).failure
        else .running (e.now + BitVec.ofNat 32 k.group.failureTime) } := by
  obtain ⟨hpru, -, hgroup, -⟩ := k.tripLocked_frame (e := e) (b := b) (c := c)
  have hfollowed : (k.tripLocked e b c).tripFollowed e b c = (k.tripLocked e b c).startFailure e b := by
    rcases h with rfl | rfl | rfl | rfl <;> rfl
  rw [Control.tripTaken_eq, hfollowed, Control.startFailure_prot, hgroup, Control.prot_congr hpru]

/-- The watch after the notice of a BACKUP trip (R158). -/
theorem Control.tripTaken_watch : (k.tripTaken e b .backup).prot b = { k.prot b with
    backupWatch := (k.prot b).backupWatch || decide ((k.breaker b).observed ≠ .opened) } := by
  obtain ⟨hpru, hbcu, -, -⟩ := k.tripLocked_frame (e := e) (b := b) (c := .backup)
  have hbreaker : ((k.tripLocked e b .backup).breaker b) = k.breaker b :=
    congrArg (fun t : PerBreaker BreakerRec => t.get b) hbcu
  rw [Control.tripTaken_eq]
  unfold Control.tripFollowed
  dsimp only
  rw [hbreaker]
  by_cases hobs : (k.breaker b).observed = .opened
  · simp [hobs, Control.prot_congr hpru]
  · rw [if_neg hobs, Control.prot_modProt_same, Control.prot_congr hpru]
    simp [hobs]

end Notices

/-- Settles O47, by the failure timer's two outcomes, the notice of a trip, and the end of a watch. -/
theorem failedBreakersAreBackedUp : Obligations.FailedBreakersAreBackedUp := by
  refine ⟨fun b s hr hdue => ?_, fun e k b p c => Control.bcuTrip_noticed, fun e k b c => ?_, fun e k b fin => ?_⟩
  · intro k carries
    have hexec : exec (.failureTimerExpiry b) s = .next (s.settled (s.blocks.failureExpired s.sensed b)) :=
      s.act_if _ hr hdue
    refine ⟨fun hopen hno => ?_, fun hfailed => ?_⟩
    · have hspared : breakerFailed s.sensed k b = false := by
        rw [← Bool.not_eq_true, breakerFailed_iff]
        exact fun h => h.elim (fun h => h hopen) hno
      rw [hexec, Control.failureExpired_spared hspared]
      exact congrArg _ (State.settled_quiet _ _ rfl)
    · intro k1 targets
      refine ⟨?_, Control.setLockout_flag, fun hflag hcause => ?_, fun hcause => ?_⟩
      · rw [hexec, Control.failureExpired_failed (breakerFailed_iff.2 hfailed)]
      · exact k.setLockout_stands s.sensed b _ hflag (.inl (Cause.escalation_iff.2 hcause))
      · have hsets : (k.lockout b).flag = false ∨
            ((k.lockout b).cause.escalation = false ∧ Cause.breakerFailure.escalation = true) :=
          hcause.imp_right fun ⟨h, h'⟩ =>
            ⟨by rw [← Bool.not_eq_true, Cause.escalation_iff]; exact not_or.2 ⟨h, h'⟩, rfl⟩
        obtain ⟨hchange, hlockout⟩ := k.setLockout_sets s.sensed b .breakerFailure hsets
        refine ⟨hlockout, ?_⟩
        rw [show k1 = _ from hchange, Control.changeLockout_erq]
        rfl
  · intro k' locks
    refine ⟨Control.tripTaken_locks, Control.tripTaken_stands, Control.tripTaken_failure, ?_, fun a ha => ?_⟩
    · rintro rfl
      exact Control.tripTaken_watch
    · obtain ⟨hpru, -, -, hothers⟩ := k.tripLocked_frame (e := e) (b := b) (c := c)
      have hk' : k' = _ := Control.tripTaken_eq
      rw [hk', Control.tripFollowed_other ha, Control.lockout_congr Control.tripFollowed_sst]
      exact ⟨Control.prot_congr hpru a, hothers a ha⟩
  · intro k'
    refine ⟨Control.watchEnded_unwatched, fun hwatch => ⟨?_, fun result hfin => ?_, Control.watchEnded_ended hwatch⟩⟩
    · by_cases hfin : ∃ result, fin = .failed result
      · obtain ⟨result, rfl⟩ := hfin
        rw [show k' = _ from Control.watchEnded_failed hwatch]
        refine (Control.prot_modProt_same ..).trans ?_
        rw [Control.prot_congr Control.setLockout_pru]
      · rw [show k' = _ from Control.watchEnded_ended hwatch fun r h => hfin ⟨r, h⟩]
        exact Control.prot_modProt_same ..
    · subst hfin
      have hk' : k' = _ := Control.watchEnded_failed hwatch
      have hlockout : k'.lockout b = (k.setLockout e b .backupFailed).lockout b := by
        rw [hk']
        rfl
      refine ⟨⟨(k.setLockout e b .backupFailed).erq, ?_⟩, hlockout ▸ Control.setLockout_flag, fun hcause => ?_⟩
      · rw [hk']
        simp only [Bool.or_eq_true, decide_eq_true_eq]
        rfl
      · rw [hlockout]
        by_cases hset : (k.lockout b).flag = true ∧ (k.lockout b).cause = .backupFailed
        · obtain ⟨hflag, hfailed⟩ := hset
          rw [k.setLockout_stands e b _ hflag (.inl (Cause.escalation_iff.2 (.inr hfailed)))]
          exact congr (congrArg Lockout.mk hflag) hfailed
        · refine (k.setLockout_sets e b _ ?_).2
          cases hflag : (k.lockout b).flag with
          | false => exact .inl rfl
          | true =>
            refine .inr ⟨?_, rfl⟩
            rw [← Bool.not_eq_true, Cause.escalation_iff]
            rintro (h | h)
            · exact hcause.elim (fun hne => hne h) fun hff => by rw [hflag] at hff; cases hff
            · exact hset ⟨hflag, h⟩

end Sys2Proof.Machine
end

section
/-! One step of the elements of PRU, and when they step. -/

namespace Sys2Proof.Machine

/-! ## The current elements (R145 to R147, R151) -/

section Current

variable {set : ElementSettings} {current : Nat} {r : ProtectionRec}

/-- An element out of use holds nothing. -/
theorem stepOvercurrent_off (h : set.pickup = 0) :
    stepOvercurrent set current r = ({ r with bucket := 0, operated := false, m16 := 0 }, false) := if_pos h

/-- Below pickup the bucket drains, and the element has operated no more once it is empty (R146). -/
theorem stepOvercurrent_below (h : set.pickup ≠ 0) (hm : multiple current set.pickup < 16) :
    stepOvercurrent set current r =
      ({ r with
          bucket := drainBucket r.bucket set.resetTime
          operated := r.operated && drainBucket r.bucket set.resetTime ≠ 0
          m16 := multiple current set.pickup }, false) := by
  unfold stepOvercurrent
  rw [if_neg h, if_pos hm]

/-- From pickup on the bucket fills by the curve (R147). -/
theorem stepOvercurrent_above (h : set.pickup ≠ 0) (hm : ¬multiple current set.pickup < 16) :
    stepOvercurrent set current r =
      let bucket := fillBucket r.bucket (curveRate set.curve (multiple current set.pickup)) set.timeMultiplier
      let trips : Bool := bucket = bucketFull && !r.operated
      ({ r with bucket := bucket, operated := r.operated || trips, m16 := multiple current set.pickup }, trips) := by
  unfold stepOvercurrent
  rw [if_neg h, if_neg hm]

/-- The rate is that of the last entry whose threshold the multiple reaches (R147). -/
theorem curveRate_split {pre post : List CurveEntry} {x : CurveEntry} {m : Nat} (hx : x.threshold ≤ m)
    (hpost : ∀ y ∈ post, m < y.threshold) : curveRate (pre ++ x :: post) m = x.rate := by
  have hnone : post.filter (fun y => y.threshold ≤ m) = [] :=
    List.filter_eq_nil_iff.2 fun y hy => by simpa using hpost y hy
  have hlast : ((pre ++ x :: post).filter fun y => y.threshold ≤ m).getLast? = some x := by
    rw [List.filter_append, List.filter_cons_of_pos (by simpa using hx), hnone]
    exact List.getLast?_concat
  simp only [curveRate, hlast]

/-- The instantaneous element counts only while its threshold is in use and reached (R146, R151). -/
theorem stepInstantaneous_quiet (h : set.pickup = 0 ∨ set.instThreshold = 0 ∨ r.m16 < set.instThreshold ∨ r.m16 < 16) :
    stepInstantaneous set r = ({ r with instCount := 0 }, false) :=
  if_pos (by simpa [or_assoc] using h)

theorem stepInstantaneous_counts (hp : set.pickup ≠ 0) (ht : set.instThreshold ≠ 0) (hm : set.instThreshold ≤ r.m16)
    (hm16 : 16 ≤ r.m16) :
    stepInstantaneous set r = ({ r with instCount := min 2 (r.instCount + 1) }, decide (r.instCount = 1)) :=
  if_neg (by simp [hp, ht, hm, hm16])

/-- The overcurrent element leaves the other elements' fields. -/
theorem stepOvercurrent_kept : (stepOvercurrent set current r).1.instCount = r.instCount ∧
    (stepOvercurrent set current r).1.reverse = r.reverse ∧ (stepOvercurrent set current r).1.failure = r.failure ∧
    (stepOvercurrent set current r).1.backupWatch = r.backupWatch := by
  unfold stepOvercurrent
  dsimp only
  split
  · exact ⟨rfl, rfl, rfl, rfl⟩
  · split
    · exact ⟨rfl, rfl, rfl, rfl⟩
    · exact ⟨rfl, rfl, rfl, rfl⟩

/-- The multiple the overcurrent element leaves (R145). -/
theorem stepOvercurrent_m16 (h : set.pickup ≠ 0) :
    (stepOvercurrent set current r).1.m16 = multiple current set.pickup := by
  by_cases hm : multiple current set.pickup < 16
  · rw [stepOvercurrent_below h hm]
  · rw [stepOvercurrent_above h hm]

theorem stepInstantaneous_kept :
    (stepInstantaneous set r).1 = { r with instCount := (stepInstantaneous set r).1.instCount } := by
  unfold stepInstantaneous
  split <;> rfl

end Current

/-! ## The step of one breaker (R144, R153) -/

/-- A current element's trip (R153), or nothing. -/
theorem Control.evaluateProtection_eq (e : Sensed) (k : Control) (b : Breaker) :
    k.evaluateProtection e b =
      let timed := stepOvercurrent (elementSettings k b) (e.mlr.image.curr.get b) (k.prot b)
      let inst := stepInstantaneous (elementSettings k b) timed.1
      let k1 := k.modProt b fun _ => inst.1
      let k2 := if timed.2 then k1.protectionTrip e b .overcurrent (tripMultiple inst.1.m16) else k1
      let k3 := if inst.2 then k2.protectionTrip e b .instantaneous (tripMultiple inst.1.m16) else k2
      match breakerSlot b with
      | some n => k3.evaluateReverse e b n
      | none => k3 := rfl

/-- The steps of the current elements, for every record and every setting. -/
theorem currentElementsStep (set : ElementSettings) (current : Nat) (r : ProtectionRec) :
    let m := min 65535 (current * 16 / set.pickup)
    let r' := (stepOvercurrent set current r).1
    let trips := (stepOvercurrent set current r).2
    let r'' := (stepInstantaneous set r').1
    let instTrips := (stepInstantaneous set r').2
    (set.pickup = 0 → r'.bucket = 0 ∧ r'.operated = false ∧ r'.m16 = 0 ∧ r''.instCount = 0 ∧
      trips = false ∧ instTrips = false) ∧
    (set.pickup ≠ 0 → r'.m16 = m ∧
      (m < 16 → trips = false ∧ instTrips = false ∧ r''.instCount = 0 ∧
        (set.resetTime = 0 → r'.bucket = 0) ∧
        (set.resetTime ≠ 0 → r'.bucket = r.bucket - 16777216 * 4 / set.resetTime) ∧
        (r'.bucket = 0 → r'.operated = false) ∧ (r'.bucket ≠ 0 → r'.operated = r.operated)) ∧
      (16 ≤ m → ∀ pre post x, set.curve = pre ++ x :: post → x.threshold ≤ m → (∀ y, y ∈ post → m < y.threshold) →
        r'.bucket = min 16777216 (r.bucket + x.rate * 4 * 100 / set.timeMultiplier) ∧
        trips = (decide (r'.bucket = 16777216) && !r.operated) ∧ r'.operated = (r.operated || trips)) ∧
      (set.instThreshold = 0 ∨ m < set.instThreshold → r''.instCount = 0 ∧ instTrips = false) ∧
      (16 ≤ m → set.instThreshold ≠ 0 → set.instThreshold ≤ m →
        r''.instCount = min 2 (r.instCount + 1) ∧ instTrips = decide (r.instCount = 1))) := by
  intro m r' trips r'' instTrips
  refine ⟨fun hp => ?_, fun hp => ?_⟩
  · have hinst := stepInstantaneous_quiet (r := r') (.inl hp)
    have hover : stepOvercurrent set current r = _ := stepOvercurrent_off hp
    exact ⟨by simp only [r', hover], by simp only [r', hover], by simp only [r', hover], by simp only [r'', hinst],
      by simp only [trips, hover], by simp only [instTrips, hinst]⟩
  · have hm16 : r'.m16 = m := stepOvercurrent_m16 hp
    have hcount : r'.instCount = r.instCount := stepOvercurrent_kept.1
    have hquiet : set.instThreshold = 0 ∨ r'.m16 < set.instThreshold ∨ r'.m16 < 16 →
        r''.instCount = 0 ∧ instTrips = false := fun h => by
      have hinst := stepInstantaneous_quiet (r := r') (.inr h)
      exact ⟨by simp only [r'', hinst], by simp only [instTrips, hinst]⟩
    refine ⟨hm16, fun hm => ?_, fun hm pre post x hcurve hx hpost => ?_, fun h => ?_, fun hm ht hreached => ?_⟩
    · have hover : stepOvercurrent set current r = _ := stepOvercurrent_below hp hm
      obtain ⟨hnone, hstill⟩ := hquiet (.inr (.inr (hm16 ▸ hm)))
      have hbucket : r'.bucket = drainBucket r.bucket set.resetTime := by simp only [r', hover]
      have hoperated : r'.operated = (r.operated && drainBucket r.bucket set.resetTime ≠ 0) := by simp only [r', hover]
      refine ⟨by simp only [trips, hover], hstill, hnone, fun h => ?_, fun h => ?_, fun h => ?_, fun h => ?_⟩
      · rw [hbucket, drainBucket, if_pos h]
      · rw [hbucket, drainBucket, if_neg h]
        rfl
      · rw [hoperated, ← hbucket, h]
        simp
      · rw [hoperated, ← hbucket]
        simp [h]
    · have hover : stepOvercurrent set current r = _ := stepOvercurrent_above hp (Nat.not_lt.2 hm)
      have hrate : curveRate set.curve (multiple current set.pickup) = x.rate := by
        rw [hcurve]
        exact curveRate_split hx hpost
      have hbucket : r'.bucket = fillBucket r.bucket x.rate set.timeMultiplier := by simp only [r', hover, hrate]
      refine ⟨hbucket, ?_, by simp only [r', trips, hover]⟩
      rw [hbucket, ← hrate]
      simp only [trips, hover]
      rfl
    · exact hquiet (h.imp_right fun h => .inl (hm16 ▸ h))
    · have hinst := stepInstantaneous_counts (r := r') hp ht (hm16 ▸ hreached) (hm16 ▸ hm)
      exact ⟨by simp only [r'', hinst, hcount], by simp only [instTrips, hinst, hcount]⟩

/-- Settles O46, by the steps of the elements one by one and the block that delivers the frame. -/
theorem elementsStepByTheRules : Obligations.ElementsStepByTheRules := by
  refine ⟨fun set current r => ?_, fun e k b n r => ?_, fun bytes s hr hlen hsum hseq => ?_,
    fun e k => ⟨fun hstale => if_neg (by simp [hstale]), fun hfresh => if_pos hfresh, fun b => ?_⟩⟩
  · intro m r' trips r'' instTrips
    obtain ⟨hcount, hreverse, hfailure, hwatch⟩ := stepOvercurrent_kept (set := set) (current := current) (r := r)
    exact ⟨hcount, hreverse, hfailure, hwatch, stepInstantaneous_kept, currentElementsStep set current r⟩
  · intro power threshold risen
    refine ⟨fun h => ?_, fun hobs hpower => ⟨fun hdelay => ?_, fun hdelay => ?_⟩⟩
    · unfold stepReverse
      by_cases hobs : (k.breaker b).observed = .opened
      · rw [if_pos hobs]
      · rw [if_neg hobs]
        exact if_neg (Int.not_lt.2 (h.resolve_left hobs))
    · unfold stepReverse
      rw [if_neg hobs]
      exact (if_pos hpower).trans (if_neg (Nat.not_le.2 hdelay))
    · unfold stepReverse
      rw [if_neg hobs]
      exact (if_pos hpower).trans (if_pos hdelay)
  · have hexec := exec_measurementFrame_accepted bytes 0 s hr ((frameAccepted_iff ..).2 ⟨hlen, rfl, hsum, hseq⟩)
    refine ⟨_, _, if (s.sensed.mlr.accept s.now bytes).fresh && !s.sensed.mlr.fresh then stalenessNotices else [],
      hexec, ?_, ?_, ?_⟩
    · unfold Control.frameDelivered
      dsimp only
      split <;> split <;> rfl
    · unfold Control.frameDelivered
      dsimp only
      split <;> split <;> rfl
    · split
      · decide
      · decide
  · intro set timed inst demand value k1
    refine ⟨fun h => ?_, fun n h => ?_⟩
    · rw [Control.evaluateProtection_eq]
      dsimp only
      rw [h]
      rfl
    · rw [Control.evaluateProtection_eq]
      dsimp only
      rw [h]
      rfl

end Sys2Proof.Machine
end

section
/-! Contacts and operations of a breaker: what a settled combination and a missed deadline leave in its record. -/

namespace Sys2Proof.Machine

/-! ## The held part of each breaker's record -/

section HeldRecords

variable {e : Sensed} {k : Control} {b c : Breaker}

/-- The completed-operation count one higher, up to 65535 (R49). -/
def countUp (n : Nat) : Nat := if n < 65535 then n + 1 else n

theorem BreakerRec.endOperation_held (r : BreakerRec) (op : Operation) : (r.endOperation op).held = r.held := by
  unfold BreakerRec.endOperation
  split <;> rfl

/-- A change of one breaker's record leaves the others' held parts. -/
theorem Control.modBreaker_breaker_held (f : BreakerRec → BreakerRec) :
    ((k.modBreaker b f).breaker c).held = if c = b then (f (k.breaker b)).held else (k.breaker c).held := by
  by_cases hc : c = b
  · rw [if_pos hc, hc, Control.breaker_modBreaker_same]
  · rw [if_neg hc, Control.breaker_modBreaker_other _ _ hc]

/-- The report of an end leaves every breaker's held part. -/
theorem Control.reportEnd_breaker_held {k1 : Control} {a : Breaker} {op : Operation} {fin : OpEnd} (kind : EventKind)
    (subject : Subject) (cause : Cause) (value : Int) :
    (((k1.record e kind subject cause value).reportEnd e a op fin).breaker c).held = (k1.breaker c).held :=
  (Control.breaker_of_held (Control.reportEnd_held ..) c).trans (Control.breaker_of_held (Control.record_held ..) c)

theorem Control.completeOperation_breaker_held (op : Operation) :
    ((k.completeOperation e b op).breaker c).held =
      if c = b then { (k.breaker b).held with opCount := countUp (k.breaker b).opCount } else (k.breaker c).held := by
  unfold Control.completeOperation
  dsimp only
  rw [Control.reportEnd_breaker_held, Control.modBreaker_breaker_held]
  refine ite_congr rfl (fun _ => ?_) fun _ => rfl
  exact congrArg (fun h : BreakerHeld => { h with opCount := countUp (k.breaker b).opCount })
    (BreakerRec.endOperation_held (k.breaker b) op)

/-- A failed operation sets its flag and changes nothing else that is held (R50, R55). -/
theorem Control.failOperation_breaker_held (op : Operation) :
    ((k.failOperation e b op).breaker c).held =
      if c = b then
        if op.kind = .close then { (k.breaker b).held with closeBlocked := true }
        else { (k.breaker b).held with openFailed := true }
      else (k.breaker c).held := by
  unfold Control.failOperation
  dsimp only
  rw [Control.reportEnd_breaker_held, Control.modBreaker_breaker_held]
  refine ite_congr rfl (fun _ => ?_) fun _ => rfl
  split
  · exact congrArg (fun h : BreakerHeld => { h with closeBlocked := true })
      (BreakerRec.endOperation_held (k.breaker b) op)
  · exact congrArg (fun h : BreakerHeld => { h with openFailed := true })
      (BreakerRec.endOperation_held (k.breaker b) op)

/-- What TIU makes of a new observed state leaves BCU. -/
theorem Control.tellObserved_bcu (new : Observed) (first : Bool) : (k.tellObserved e b new first).bcu = k.bcu := by
  unfold Control.tellObserved
  rw [Control.recompute_bcu, Control.tell_bcu]
  exact (apply_ite Control.bcu ..).trans (ite_self _)

/-- The count after a new observed state: an operation whose target it is completes (R49). -/
def BreakerRec.countAfter (r : BreakerRec) (new : Observed) : Nat :=
  match r.op with
  | some op => if new = op.kind.target then countUp r.opCount else r.opCount
  | none => r.opCount

theorem Control.judgeObserved_breaker_held (new : Observed) (first : Bool) :
    ((k.judgeObserved e b new first).breaker c).held =
      if c = b then { (k.breaker b).held with opCount := (k.breaker b).countAfter new } else (k.breaker c).held := by
  have hsame : ∀ {k' : Control}, k'.held = k.held → (k'.breaker c).held =
      if c = b then { (k.breaker b).held with opCount := (k.breaker b).opCount } else (k.breaker c).held :=
    fun {k'} h => by
      rw [Control.breaker_of_held h c]
      split
      · next hc => rw [hc]; rfl
      · rfl
  unfold Control.judgeObserved BreakerRec.countAfter
  cases hop : (k.breaker b).op with
  | some op =>
    dsimp only
    split
    · exact Control.completeOperation_breaker_held op
    · exact hsame rfl
  | none =>
    dsimp only
    split
    · exact hsame (Control.uncommandedChange_held ..)
    · split
      · exact hsame (by simp)
      · exact hsame (by simp)

/-- A combination that shows the state already held only ends its timing (R43). -/
theorem Control.settleContacts_still (hsettled : (k.breaker b).settled = true)
    (hsame : contactState (k.breaker b).closedMade (k.breaker b).openMade = (k.breaker b).observed) :
    k.settleContacts e b = k.modBreaker b fun r => { r with settle := .off } := by
  unfold Control.settleContacts
  exact if_pos (by simp [hsettled, hsame])

/-- A combination that shows a new state, or is the first, is observed (R43, R49). -/
theorem Control.settleContacts_breaker_held (hmoved : ¬((k.breaker b).settled = true ∧
      contactState (k.breaker b).closedMade (k.breaker b).openMade = (k.breaker b).observed)) :
    ((k.settleContacts e b).breaker c).held =
      if c = b then
        { (k.breaker b).held with
          settle := .off
          settled := true
          observed := contactState (k.breaker b).closedMade (k.breaker b).openMade
          opCount := (k.breaker b).countAfter (contactState (k.breaker b).closedMade (k.breaker b).openMade) }
      else (k.breaker c).held := by
  unfold Control.settleContacts
  dsimp only
  rw [if_neg (by simpa [and_comm] using hmoved), Control.judgeObserved_breaker_held]
  simp only [Control.breaker, Control.tellObserved_bcu]
  generalize contactState (k.bcu.get b).closedMade (k.bcu.get b).openMade = new
  by_cases hc : c = b
  · rw [if_pos hc, if_pos hc]
    have hrec : (((k.modBreaker b fun r => { r with settle := .off }).modBreaker b fun r =>
        { r with observed := new, settled := true }).breaker b) =
        { k.breaker b with settle := .off, observed := new, settled := true } := by
      rw [Control.breaker_modBreaker_same, Control.breaker_modBreaker_same]
    exact congrArg (fun r : BreakerRec => { r.held with opCount := r.countAfter new }) hrec
  · rw [if_neg hc, if_neg hc]
    exact congrArg BreakerRec.held ((Control.breaker_modBreaker_other _ _ hc).trans
      (Control.breaker_modBreaker_other _ _ hc))

end HeldRecords

/-! ## Contacts -/

/-- The contacts are timed from a new combination on, and one already held changes nothing (R43). -/
theorem exec_contactCombinationChange_same (b : Breaker) (closedMade openMade : Bool) (s : State)
    (h : (s.control.breaker b).closedMade = closedMade ∧ (s.control.breaker b).openMade = openMade) :
    exec (.contactCombinationChange b closedMade openMade) s = .next s := if_pos (by simp [h])

theorem exec_contactCombinationChange_new (b : Breaker) (closedMade openMade : Bool) (s : State)
    (hr : s.inReset = false)
    (h : ¬((s.control.breaker b).closedMade = closedMade ∧ (s.control.breaker b).openMade = openMade)) :
    exec (.contactCombinationChange b closedMade openMade) s = .next { s with
      control := s.blocks.modBreaker b fun r => { r with
        closedMade := closedMade
        openMade := openMade
        settle := .running (s.now + BitVec.ofNat 32 s.control.common.settleTime) } } := by
  change execContactCombinationChange b closedMade openMade s = _
  unfold execContactCombinationChange
  dsimp only
  rw [if_neg (by simpa using h), if_neg (by simp [hr])]
  exact s.act_quiet _ hr rfl

/-- Settles O24, by the held part of each record after a settled combination. -/
theorem contactsAreTimedAndObserved : Obligations.ContactsAreTimedAndObserved := by
  intro b s hr r
  refine ⟨fun closedMade openMade => ⟨exec_contactCombinationChange_same b closedMade openMade s,
    exec_contactCombinationChange_new b closedMade openMade s hr⟩, fun hdue => ?_⟩
  refine ⟨_, s.act_if _ hr hdue, rfl, ?_⟩
  have hheld : ∀ c, ((s.settled (s.blocks.settleContacts s.sensed b)).control.breaker c).held =
      ((s.blocks.settleContacts s.sensed b).breaker c).held := Control.breaker_of_held (s.settled_held _)
  generalize (s.settled (s.blocks.settleContacts s.sensed b)).control = k at hheld ⊢
  have hother : ∀ c, c ≠ b → (k.breaker c).held = (s.control.breaker c).held := fun c hc => by
    rw [hheld]
    by_cases hstill : r.settled = true ∧ contactState r.closedMade r.openMade = r.observed
    · rw [Control.settleContacts_still (k := s.blocks) hstill.1 hstill.2, Control.modBreaker_breaker_held, if_neg hc]
      rfl
    · rw [Control.settleContacts_breaker_held (k := s.blocks) hstill, if_neg hc]
      rfl
  have hself : ∃ count, (k.breaker b).held = { r.held with
        settle := .off, settled := true, observed := contactState r.closedMade r.openMade, opCount := count } ∧
      (∀ op, r.op = some op → contactState r.closedMade r.openMade = op.kind.target → r.observed ≠ op.kind.target →
        count = countUp r.opCount) ∧ (r.op = none → count = r.opCount) := by
    rw [hheld]
    by_cases hstill : r.settled = true ∧ contactState r.closedMade r.openMade = r.observed
    · rw [Control.settleContacts_still (k := s.blocks) hstill.1 hstill.2, Control.modBreaker_breaker_held, if_pos rfl]
      refine ⟨r.opCount, ?_, fun op _ htarget hleft => absurd (hstill.2 ▸ htarget) hleft, fun _ => rfl⟩
      rw [hstill.2, ← hstill.1]
      rfl
    · rw [Control.settleContacts_breaker_held (k := s.blocks) hstill, if_pos rfl]
      refine ⟨r.countAfter (contactState r.closedMade r.openMade), rfl, fun op hop htarget _ => ?_, fun hop => ?_⟩
      · unfold BreakerRec.countAfter
        rw [hop]
        exact if_pos htarget
      · unfold BreakerRec.countAfter
        rw [hop]
  obtain ⟨count, hfields, hcompleted, hnone⟩ := hself
  have hfield : ∀ {α : Type} (f : BreakerHeld → α), f (k.breaker b).held = f _ := fun f => congrArg f hfields
  have hobserved : (k.breaker b).observed = contactState r.closedMade r.openMade := hfield BreakerHeld.observed
  have hcount : (k.breaker b).opCount = count := hfield BreakerHeld.opCount
  refine ⟨hfield BreakerHeld.settle, fun hc ho => ?_, fun hc ho => ?_, fun hc ho => ?_, fun hc ho => ?_,
    fun op hop htarget hleft => hcount.trans (hcompleted op hop htarget hleft), fun hop => hcount.trans (hnone hop),
    hfield BreakerHeld.closeBlocked, hfield BreakerHeld.openFailed, hfield BreakerHeld.closedMade,
    hfield BreakerHeld.openMade, hother⟩
  all_goals
    rw [hobserved, hc, ho]
    rfl

/-! ## A missed deadline (R50) -/

theorem exec_operationDeadline (b : Breaker) {op : Operation} (s : State) (hr : s.inReset = false)
    (hop : (s.control.breaker b).op = some op) : exec (.operationDeadline b) s = .next (s.settled
      (if reached op.deadline s.now then s.blocks.failOperation s.sensed b op else s.blocks)) := by
  refine (s.act_settled _ hr).trans ?_
  rw [show (s.blocks.breaker b).op = some op from hop]
  rfl

theorem Control.watchEnded_bcu (e : Sensed) (k : Control) (b : Breaker) (fin : OpEnd) :
    (k.watchEnded e b fin).bcu = k.bcu := by
  unfold Control.watchEnded
  split
  · rfl
  · split
    · exact Control.setLockout_bcu
    · rfl

/-- The report of an end reaches a breaker's record in its reservation alone. -/
theorem Control.reportEnd_breaker (e : Sensed) (k : Control) (a b : Breaker) (op : Operation) (fin : OpEnd) :
    (k.reportEnd e a op fin).breaker b = k.breaker b ∨
      (k.reportEnd e a op fin).breaker b = { k.breaker b with holder := none } := by
  by_cases hclose : op.kind = .close
  · exact (Regrouped.reportClose hclose).breaker b
  · refine .inl ?_
    have hbcu : (k.reportEnd e a op fin).bcu = k.bcu := by
      unfold Control.reportEnd
      dsimp only
      rw [if_neg hclose, if_neg hclose, Control.tell_bcu, Control.watchEnded_bcu, Control.recompute_bcu]
    rw [Control.breaker, hbcu, Control.breaker]

/-- The coil and the operation of a failed operation are gone before what follows, and the commanded state stands
(R50). -/
theorem Control.failOperation_breaker (e : Sensed) (k : Control) (b : Breaker) (op : Operation) :
    let r := k.breaker b
    let r' := (k.failOperation e b op).breaker b
    r'.op = none ∧ r'.commanded = r.commanded ∧
      (op.kind = .close → r'.closeCoil = false ∧ r'.tripCoil = r.tripCoil) ∧
      (op.kind ≠ .close → r'.tripCoil = false ∧ r'.closeCoil = r.closeCoil) := by
  intro r r'
  have hwritten : r' = (let r1 := r.endOperation op
      if op.kind = .close then { r1 with closeBlocked := true } else { r1 with openFailed := true }) ∨
      r' = { (let r1 := r.endOperation op
        if op.kind = .close then { r1 with closeBlocked := true } else { r1 with openFailed := true }) with
          holder := none } := by
    rw [← show (k.modBreaker b fun r => let r1 := r.endOperation op
      if op.kind = .close then { r1 with closeBlocked := true } else { r1 with openFailed := true }).breaker b = _ from
      Control.breaker_modBreaker_same ..]
    exact Control.reportEnd_breaker e _ b b op _
  clear_value r'
  unfold BreakerRec.endOperation at hwritten
  cases hkind : op.kind with
  | close =>
    simp only [hkind, if_true] at hwritten
    rcases hwritten with h | h
    · simp [h]
    · simp [h]
  | opening | trip =>
    simp only [hkind, reduceCtorEq, if_false] at hwritten
    rcases hwritten with h | h
    · simp [h]
    · simp [h]

/-- The result of a failed operation, by the observed state it ends in (R50). -/
theorem failureResult_eq (e : Sensed) (k : Control) (b : Breaker) (op : Operation) :
    ((k.breaker b).observed = .opened → op.kind = .close → failureResult e k b op = .noMovement) ∧
    ((k.breaker b).observed = .closed → op.kind ≠ .close → failureResult e k b op = .noMovement) ∧
    ((k.breaker b).observed = .travel → failureResult e k b op = .stuckTravel) ∧
    ((k.breaker b).observed = .invalid → failureResult e k b op = .contactInvalid) := by
  unfold failureResult
  refine ⟨fun hobs hkind => ?_, fun hobs hkind => ?_, fun hobs => ?_, fun hobs => ?_⟩
  · rw [hobs]
    exact if_neg (by rw [hkind]; decide)
  · rw [hobs]
    refine if_neg ?_
    cases h : op.kind with
    | close => exact absurd h hkind
    | opening => decide
    | trip => decide
  · rw [hobs]
  · rw [hobs]

/-- Settles O25, by the record of the failed operation's breaker and the held part of every other. -/
theorem operationFailsAtItsDeadline : Obligations.OperationFailsAtItsDeadline := by
  intro b op s hr hop r
  refine ⟨fun hearly => ?_, fun hdue => ?_⟩
  · rw [exec_operationDeadline b s hr hop, if_neg (by simp [hearly]), State.settled_quiet _ _ s.blocks_notices]
  · have hexec : exec (.operationDeadline b) s = .next (s.settled (s.blocks.failOperation s.sensed b op)) := by
      rw [exec_operationDeadline b s hr hop, if_pos hdue]
    have hheld : ∀ c, ((s.settled (s.blocks.failOperation s.sensed b op)).control.breaker c).held =
        if c = b then
          if op.kind = .close then { r.held with closeBlocked := true } else { r.held with openFailed := true }
        else (s.control.breaker c).held := fun c =>
      (Control.breaker_of_held (s.settled_held _) c).trans (Control.failOperation_breaker_held op)
    obtain ⟨hgone, hcommanded, hclose, htrip⟩ := Control.failOperation_breaker s.sensed s.blocks b op
    refine ⟨hexec, ⟨_, hexec, rfl, fun hkind => ?_, fun hkind => ?_, fun c hc => ?_⟩, hgone, hcommanded, hclose, htrip,
      failureResult_eq s.sensed s.blocks b op⟩
    · exact (hheld b).trans ((if_pos rfl).trans (if_pos hkind))
    · exact (hheld b).trans ((if_pos rfl).trans (if_neg hkind))
    · exact (hheld c).trans (if_neg hc)

end Sys2Proof.Machine
end

section
/-! The requests that name a breaker: its flags, its service state, and an open demanded by a port. -/

namespace Sys2Proof.Machine

/-! ## The breaker a request names -/

theorem Breaker.ofIndex_outOfRange {n : Nat} (h : 18 < n) : Breaker.ofIndex n = none := by
  unfold Breaker.ofIndex
  split
  all_goals first | omega | rfl

theorem withBreaker_none {x : Byte} (k : Control) (h : 18 < x.toNat) (owner : Breaker → Control → Control × Response) :
    withBreaker x owner k = (k, refusal .range) := by
  unfold withBreaker breakerOf
  rw [Breaker.ofIndex_outOfRange h]

theorem withBreaker_some {x : Byte} {b : Breaker} (k : Control) (h : Breaker.ofIndex x.toNat = some b)
    (owner : Breaker → Control → Control × Response) : withBreaker x owner k = owner b k := by
  unfold withBreaker breakerOf
  rw [h]

/-! ## An open demanded by a port (R47, R52, R53) -/

section PortOpen

variable {e : Sensed} {k : Control} {b : Breaker} {p : Port}

theorem openRefusal_port : openRefusal k b (.port p) =
    if k.outOfService b = true ∧ p ≠ .cpP then some .outOfService else none := by
  unfold openRefusal
  simp

/-- Whom a port's open tells: the holder of the reservation, and the ports whose requests it cancels (R59, R78). -/
theorem openNotices_eq : openNotices k b =
    (match (k.breaker b).holder with
      | some (.transfer l) => [.operatorOpen b (.transfer l) (some ⟨l, (k.xfer l).serial⟩)]
      | some h => [.operatorOpen b h none]
      | none => []) ++
    (Port.all.filter fun q => (ClaimBus.all.any fun c => hasClaimRequest k c b (.port q)) &&
      decide ((k.breaker b).holder ≠ some (.port q none))).map fun q => .operatorOpen b (.port q none) none := by
  have hports : (claimingPorts k b).filter (fun q => (k.breaker b).holder ≠ some (.port q none)) =
      Port.all.filter fun q => (ClaimBus.all.any fun c => hasClaimRequest k c b (.port q)) &&
        decide ((k.breaker b).holder ≠ some (.port q none)) := by
    rw [claimingPorts, List.filter_filter]
    exact List.filter_congr fun q _ => Bool.and_comm ..
  unfold openNotices
  dsimp only
  rw [hports]
  congr 1
  unfold reservingTransfer
  cases (k.breaker b).holder with
  | none => rfl
  | some h => cases h <;> rfl

theorem Control.portOpen_refused (hservice : k.outOfService b = true) (hp : p ≠ .cpP) :
    Control.portOpen e p b k = (k, refusal .outOfService) := by
  unfold Control.portOpen Control.bcuOpen
  rw [openRefusal_port, if_pos ⟨hservice, hp⟩]
  rfl

/-- A port's open that is not refused is taken, and told. -/
theorem Control.portOpen_taken (hservice : k.outOfService b = true → p = .cpP) :
    Control.portOpen e p b k =
      ((k.takeOpen e b (.port p)).1.tell (openNotices k b), demandAnswer (k.takeOpen e b (.port p)).2) := by
  unfold Control.portOpen Control.bcuOpen
  rw [openRefusal_port, if_neg fun ⟨h, hp⟩ => hp (hservice h)]

theorem Control.takeOpen_opened {q : Party} (hop : (k.breaker b).op = none) (hobs : (k.breaker b).observed = .opened) :
    k.takeOpen e b q = (k.modBreaker b fun r => { r with commanded := .opened, lastCause := demandCause k b q },
      .acknowledged) := by
  unfold Control.takeOpen
  rw [hop]
  exact if_pos hobs

theorem Control.takeOpen_starts {q : Party} (hop : (k.breaker b).op = none) (hobs : (k.breaker b).observed ≠ .opened) :
    k.takeOpen e b q = (k.modBreaker b fun r => { r with
      commanded := .opened
      lastCause := demandCause k b q
      tripCoil := true
      op := some (newOperation e k b .opening q (demandCause k b q) none) }, .started) := by
  unfold Control.takeOpen
  rw [hop]
  exact if_neg hobs

theorem Control.takeOpen_underway {q : Party} {op : Operation} (hop : (k.breaker b).op = some op)
    (hkind : op.kind ≠ .close) :
    k.takeOpen e b q = (k.modBreaker b fun r => { r with lastCause := demandCause k b q }, .acknowledged) := by
  unfold Control.takeOpen
  rw [hop]
  exact if_neg hkind

theorem Control.takeOpen_cuts {q : Party} {op : Operation} (hop : (k.breaker b).op = some op)
    (hkind : op.kind = .close) :
    k.takeOpen e b q = (k.cut e b op .opening q (demandCause k b q), .started) := by
  unfold Control.takeOpen
  rw [hop]
  exact if_pos hkind

end PortOpen

/-- Settles O29, by the four ways an open is taken. -/
theorem operateOpenIsTaken : Obligations.OperateOpenIsTaken := by
  intro p x s hr hadm k
  refine ⟨fun hx => s.request_ownerRefused p .operate hr hadm (withBreaker_none _ hx _), fun b hb =>
    ⟨fun hservice hp => s.request_ownerRefused p .operate hr hadm ?_, fun hservice => ?_⟩⟩
  · rw [withBreaker_some _ hb]
    exact Control.portOpen_refused hservice hp
  · intro held requests told c
    have htold : openNotices k b = told := openNotices_eq
    have htaken : ∀ {k' : Control} {a : Answer}, k.takeOpen s.sensed b (.port p) = (k', a) →
        exec (.operateOpen p x) s = .next (s.settled ((k'.tell told).respond p (demandAnswer a))) := fun {k' a} h => by
      refine s.request_ownerTook p .operate hr hadm ?_
      rw [withBreaker_some _ hb, Control.portOpen_taken hservice, h, htold]
    exact ⟨fun hop hobs => htaken (Control.takeOpen_opened hop hobs),
      fun hop hobs => htaken (Control.takeOpen_starts hop hobs),
      fun op hop hkind => htaken (Control.takeOpen_underway hop hkind),
      fun op hop hkind => htaken (Control.takeOpen_cuts hop hkind)⟩

/-! ## Flags and service (R56, R61) -/

section Service

variable {e : Sensed} {k : Control} {b : Breaker} {set : Bool}

theorem serviceRefusal_busy (h : (k.breaker b).op.isSome = true) : serviceRefusal k b set = some .busy := if_pos h

theorem serviceRefusal_reserved (hop : (k.breaker b).op = none) (hset : set = true)
    (hheld : (k.breaker b).holder.isSome = true) : serviceRefusal k b set = some .reserved := by
  simp [serviceRefusal, hop, hset, hheld]

variable (hop : (k.breaker b).op = none) (hheld : set = true → (k.breaker b).holder = none)
include hop hheld

theorem serviceRefusal_observed : serviceRefusal k b set =
    if (k.breaker b).observed ≠ .opened then some .inconsistent
    else if k.storeBusy then some .storeBusy else none := by
  have hfree : (set && (k.breaker b).holder.isSome) = false := by
    cases set with
    | false => rfl
    | true => rw [hheld rfl]; rfl
  simp [serviceRefusal, hop, hfree]

end Service

/-- A flag changed in the working copy, with its event and the write of it started (R61). -/
def Control.serviceWritten (e : Sensed) (b : Breaker) (set : Bool) (k : Control) : Control :=
  { k with
    sst := { k.sst with
      working := { k.sst.working with outOfService := k.sst.working.outOfService.set b set }
      write := some {
        kind := .service b
        data := { k.sst.image with outOfService := k.sst.image.outOfService.set b set }
        start := e.now } }
    erq := k.erq.append e.now .settingChanged (.breaker b) .service (if set then 1 else 0) }

theorem Control.changeService_eq (e : Sensed) (b : Breaker) (set : Bool) (k : Control) :
    k.changeService e b set = ((k.serviceWritten e b set).recompute e none).tell [.serviceChanged b] := by
  have hwritten : ((k.putWorking { k.sst.working with
      outOfService := k.sst.working.outOfService.set b set }).record e .settingChanged (.breaker b) .service
        set.toNat).startWrite e (.service b) = k.serviceWritten e b set := by
    have hvalue : ((set.toNat : Nat) : Int) = if set then 1 else 0 := by cases set <;> rfl
    unfold Control.startWrite Control.serviceWritten Sst.writeData Control.putWorking Control.record
    dsimp only
    rw [PerBreaker.get_set_same, hvalue]
  unfold Control.changeService
  dsimp only
  rw [hwritten]

/-- Settles O30, by the checks of SERVICE in order and the reach of the recomputation after it. -/
theorem breakerFlagsAreChanged : Obligations.BreakerFlagsAreChanged := by
  refine ⟨fun p x s hr hadm => ?_, fun x flag s hr hrange => ?_, fun x b set s hr hb => ?_⟩
  · refine ⟨fun hx => s.request_ownerRefused p .operate hr hadm (withBreaker_none _ hx _), fun b hb => ?_⟩
    exact s.request_ownerAnswered p .operate hr hadm (withBreaker_some _ hb _) (s.asked_notices p)
  · refine s.request_ownerRefused .cpP .panel hr rfl ?_
    split
    · next set hset =>
      refine withBreaker_none _ (hrange.resolve_right fun hflag => ?_) _
      unfold flagOf at hset
      have hzero : flag ≠ 0 := fun h => by rw [h] at hflag; exact absurd hflag (by decide)
      have hone : flag ≠ 1 := fun h => by rw [h] at hflag; exact absurd hflag (by decide)
      rw [if_neg hzero, if_neg hone] at hset
      cases hset
    · rfl
  · intro k request answer r flags changed
    have howner : (fun k : Control => match flagOf (if set then 1 else 0) with
        | some set => withBreaker x (Control.service s.sensed set) k
        | none => (k, refusal .range)) = Control.service s.sensed set b := by
      funext k
      rw [show flagOf (if set then 1 else 0) = some set by cases set <;> rfl]
      exact withBreaker_some k hb _
    have hrequest : exec request s = s.request .cpP .panel (Control.service s.sensed set b) :=
      congrArg (s.request .cpP .panel) howner
    have hrefused : k.outOfService b ≠ set → ∀ {why}, serviceRefusal k b set = some why →
        exec request s = .next (answer (.refused why)) := fun hnew why hwhy => by
      rw [hrequest]
      refine s.request_ownerRefused .cpP .panel hr rfl ?_
      unfold Control.service
      rw [if_neg hnew, show serviceRefusal (s.asked .cpP) b set = some why from hwhy]
    refine ⟨fun hsame => ?_, fun hnew => ⟨fun hbusy => hrefused hnew (serviceRefusal_busy hbusy),
      fun hop hset hheld => hrefused hnew (serviceRefusal_reserved hop hset hheld), fun hop hheld =>
      ⟨fun hobs => hrefused hnew ?_, fun hobs => ⟨fun hstore => hrefused hnew ?_, fun hstore => ?_⟩⟩⟩⟩
    · rw [hrequest]
      exact s.request_ownerAnswered .cpP .panel hr rfl (if_pos hsame) (s.asked_notices .cpP)
    · rw [serviceRefusal_observed hop hheld, if_pos hobs]
    · rw [serviceRefusal_observed hop hheld, if_neg (not_not_intro hobs), if_pos hstore]
    · have hpasses : serviceRefusal k b set = none := by
        rw [serviceRefusal_observed hop hheld, if_neg (not_not_intro hobs), if_neg (by simp [hstore])]
      have hexec : exec request s = .next (s.settled
          (((changed.recompute s.sensed none).tell [.serviceChanged b]).respond .cpP ⟨.done, .bytes []⟩)) := by
        rw [hrequest]
        refine s.request_ownerTook .cpP .panel hr rfl ?_
        unfold Control.service
        rw [if_neg hnew, show serviceRefusal (s.asked .cpP) b set = none from hpasses]
        exact congrArg (·, plain .done) (Control.changeService_eq s.sensed b set k)
      refine ⟨hexec, _, hexec, ?_⟩
      have hsst : (changed.recompute s.sensed none).sst = changed.sst :=
        (Claimed.refl (k := changed)).toRegrouped.recompute.sst
      have hheld := s.settled_held
        (((changed.recompute s.sensed none).tell [.serviceChanged b]).respond .cpP ⟨.done, .bytes []⟩)
      generalize (s.settled (((changed.recompute s.sensed none).tell [.serviceChanged b]).respond .cpP
        ⟨.done, .bytes []⟩)).control = t at hheld ⊢
      have hstored : (s.asked .cpP).sst = s.control.sst := by rw [State.asked_eq]
      have hflags : t.sst.working.outOfService = flags :=
        (Control.outOfServiceFlags_of_held hheld).trans (congrArg (fun x : Sst => x.working.outOfService) hsst)
      have hkept : ∀ {α : Type} (f : Sst → α), f changed.sst = f k.sst →
          f (changed.recompute s.sensed none).sst = f s.control.sst := fun f hf => by rw [hsst, hf, hstored]
      refine ⟨?_, fun c => ?_, ?_, ?_, ?_, ?_, ?_⟩
      · rw [Control.port, Control.cpi_of_held hheld]
        exact congrArg PortRec.response (Control.port_modPort_same ..)
      · rw [Control.outOfService, hflags, PerBreaker.get_set]
        refine ite_congr rfl (fun _ => rfl) fun _ => ?_
        exact congrArg (fun x : Sst => x.working.outOfService.get c) hstored
      · exact (Control.common_of_held hheld).trans (hkept (fun x => x.working.common) rfl)
      · exact (Control.groups_of_held hheld).trans (hkept (fun x => x.working.groups) rfl)
      · exact (Control.active_of_held hheld).trans (hkept (fun x => x.working.active) rfl)
      · exact (Control.curves_of_held hheld).trans (hkept (fun x => x.working.curves) rfl)
      · exact (Control.image_of_held hheld).trans (hkept Sst.image rfl)

end Sys2Proof.Machine
end

section
/-! OPERATE_CLOSE: the classification of a port's close, and its answer. -/

namespace Sys2Proof.Machine

/-! ## The checks of step 1 (R69) -/

section Checks

variable {e : Sensed} {k : Control} {b : Breaker} {p : Port}

/-- The checks of R69 for a port, in the order of its table. -/
theorem breakerRefusal_eq_firstFailing : breakerRefusal k b (.port p) none = firstFailing [
    ((k.lockout b).flag, Reason.lockout), ((k.breaker b).closeBlocked, .closeBlocked),
    (k.outOfService b && p ≠ .cpP, .outOfService), ((k.breaker b).op.isSome, .busy), ((attemptOn k b).isSome, .busy),
    (match (k.breaker b).holder with
      | some h => !h.isParty (.port p)
      | none => false, .reserved),
    ((k.breaker b).observed = .travel || (k.breaker b).observed = .invalid, .busy)] := by
  have hreserved : reservedAgainst k b (.port p) = (match (k.breaker b).holder with
      | some h => !h.isParty (.port p)
      | none => false) := rfl
  have hattempt : ((attemptOn k b).isSome && attemptOn k b ≠ none) = (attemptOn k b).isSome := by
    cases attemptOn k b <;> rfl
  have hservice : (k.outOfService b && Party.port p ≠ .port .cpP) = (k.outOfService b && p ≠ .cpP) := by
    congr 1
    exact decide_eq_decide.2 (not_congr (by rw [Party.port.injEq]))
  unfold breakerRefusal
  simp only [hreserved, hattempt, hservice, firstFailing]
  cases (k.breaker b).observed <;> rfl

end Checks

/-! ## The demand and its answer -/

section Demand

variable {e : Sensed} {k k' : Control} {b : Breaker} {p : Port}

/-- A refusal that ends a claim, or leaves it (R77, R78). -/
def Control.refusedClose (e : Sensed) (k : Control) (b : Breaker) (p : Party) (why : Reason) : Control :=
  if why = .stale ∨ why = .voltageIndeterminate then k
  else match unstartedClaim k b p with
    | some c => k.endHolder e c .refused
    | none => k

theorem Control.closeDemand_refused {q : Party} {why : Reason} (h : k.classifyClose e b q = (k', .refused why)) :
    k.closeDemand e b q = (k'.refusedClose e b q why, .refused why) := by
  have hkeeps : why.keepsClaim = decide (why = .stale ∨ why = .voltageIndeterminate) := by
    cases why <;> rfl
  unfold Control.closeDemand Control.refusedClose
  rw [h]
  dsimp only
  rw [hkeeps]
  by_cases hwhy : why = .stale ∨ why = .voltageIndeterminate
  · rw [if_pos hwhy, if_pos (decide_eq_true hwhy)]
  · rw [if_neg hwhy, if_neg (by simpa using hwhy)]
    cases unstartedClaim k' b q <;> rfl

theorem Control.closeDemand_taken {q : Party} {a : Answer} (h : k.classifyClose e b q = (k', a))
    (ha : ∀ why, a ≠ .refused why) : k.closeDemand e b q = (k', a) := by
  unfold Control.closeDemand
  rw [h]
  cases a with
  | refused why => exact absurd rfl (ha why)
  | acknowledged => rfl
  | started => rfl
  | attempt n => rfl
  | claim n => rfl

end Demand

/-! ## The classification -/

section Classify

variable {e : Sensed} {k : Control} {b : Breaker} {p : Party}

theorem Control.classifyClose_refused {why : Reason} (h : breakerRefusal k b p none = some why) :
    k.classifyClose e b p = (k, .refused why) := by
  unfold Control.classifyClose
  rw [h]

variable (hpass : breakerRefusal k b p none = none)
include hpass

theorem Control.classifyClose_closed (hobs : (k.breaker b).observed = .closed) :
    k.classifyClose e b p = (k.modBreaker b fun r => { r with commanded := .closed }, .acknowledged) := by
  unfold Control.classifyClose
  rw [hpass]
  exact (if_pos hobs).trans (Control.bcuClose_acknowledged e k b p hpass hobs)

variable (hobs : (k.breaker b).observed = .opened)
include hobs

theorem Control.classifyClose_opened : k.classifyClose e b p =
    if shedActive k b p then (k, .refused .shedActive)
    else if k.outOfService b then (k.beginClose e b p none, .started)
    else match breakerX b with
      | none =>
        if !e.mlr.fresh then (k, .refused .stale)
        else if !isLive e k (breakerR b) then (k, .refused .busNotLive)
        else (k.beginClose e b p none, .started)
      | some x => k.classifySides e b p x (breakerR b) := by
  unfold Control.classifyClose
  rw [hpass, Control.bcuClose_starts e k b p hpass hobs]
  exact if_neg (by rw [hobs]; decide)

end Classify

section Sides

variable {e : Sensed} {k : Control} {b : Breaker} {p : Party} {x r : Channel}

/-- A node of a definite class is seen on a FRESH image (R15). -/
theorem fresh_of_classOf {c : Channel} (h : classOf e k c ≠ .indeterminate) : e.mlr.fresh = true := by
  unfold classOf at h
  exact Decidable.byContradiction fun hstale => h (if_pos (by simpa using hstale))

theorem Control.classifySides_unformed (h : k.tiu.formed = false) :
    k.classifySides e b p x r = (k, .refused .notReady) := if_pos (by rw [h]; rfl)

section Formed

variable (hformed : k.tiu.formed = true)
include hformed

theorem Control.classifySides_stale (h : e.mlr.fresh = false) : k.classifySides e b p x r = (k, .refused .stale) := by
  unfold Control.classifySides
  rw [if_neg (by simp [hformed]), if_pos (by simp [h])]

section Fresh

variable (hfresh : e.mlr.fresh = true)
include hfresh

theorem Control.classifySides_fresh : k.classifySides e b p x r =
    match classOf e k x, classOf e k r with
    | .indeterminate, _ | _, .indeterminate => (k, .refused .voltageIndeterminate)
    | .dead, .live => k.deadBusClose e b p x
    | .live, .dead => k.deadBusClose e b p r
    | .dead, .dead => if k.common.deadDead.get b then k.bcuClose e b p none else (k, .refused .deadDead)
    | .live, .live =>
      if parallelPermitted k b p then
        match p.requester with
        | some q => k.createAttempt e b q
        | none => (k, .refused .parallelNotPermitted)
      else (k, .refused .parallelNotPermitted) := by
  unfold Control.classifySides
  exact (if_neg (by simp [hformed])).trans (if_neg (by simp [hfresh]))

theorem Control.classifySides_indeterminate (h : classOf e k x = .indeterminate ∨ classOf e k r = .indeterminate) :
    k.classifySides e b p x r = (k, .refused .voltageIndeterminate) := by
  rw [Control.classifySides_fresh hformed hfresh]
  rcases h with h | h
  · rw [h]
  · rw [h]
    cases classOf e k x <;> rfl

end Fresh

/-- One side dead and the other live: a dead-bus close (R71). -/
theorem Control.classifySides_deadBus {dead : Channel}
    (h : (classOf e k x = .dead ∧ classOf e k r = .live ∧ dead = x) ∨
      (classOf e k x = .live ∧ classOf e k r = .dead ∧ dead = r)) :
    k.classifySides e b p x r = k.deadBusClose e b p dead := by
  rcases h with ⟨hx, hr, rfl⟩ | ⟨hx, hr, rfl⟩
  · rw [Control.classifySides_fresh hformed (fresh_of_classOf (by rw [hx]; decide)), hx, hr]
  · rw [Control.classifySides_fresh hformed (fresh_of_classOf (by rw [hx]; decide)), hx, hr]

theorem Control.classifySides_deadDead (hx : classOf e k x = .dead) (hr : classOf e k r = .dead) :
    k.classifySides e b p x r =
      if k.common.deadDead.get b then k.bcuClose e b p none else (k, .refused .deadDead) := by
  rw [Control.classifySides_fresh hformed (fresh_of_classOf (by rw [hx]; decide)), hx, hr]

/-- Both sides live: a paralleling close, which a port makes an attempt if at most one source stands on the two sides
(R73). -/
theorem Control.classifySides_parallel {q : Port} (hx : classOf e k x = .live) (hr : classOf e k r = .live)
    (hb : breakerX b = some x) (hbr : breakerR b = r) :
    k.classifySides e b (.port q) x r =
      if ((nodeSources k x).union (nodeSources k r)).size ≤ 1 then k.createAttempt e b (.port q)
      else (k, .refused .parallelNotPermitted) := by
  have hpermitted : parallelPermitted k b (.port q) =
      decide (((nodeSources k x).union (nodeSources k r)).size ≤ 1) := by
    unfold parallelPermitted mergedSources closedArrival
    rw [hb, hbr]
    dsimp only
    split
    · next h => rw [decide_eq_true h]
    · next h => rw [decide_eq_false h]; rfl
  rw [Control.classifySides_fresh hformed (fresh_of_classOf (by rw [hx]; decide)), hx, hr]
  dsimp only
  rw [hpermitted]
  simp only [decide_eq_true_eq]
  rfl

end Formed

/-- A dead-bus close goes by the sources of the dead group and the claim of the dead bus (R71). -/
theorem Control.deadBusClose_backfeed {dead : Channel} (h : 0 < (nodeSources k dead).size) :
    k.deadBusClose e b p dead = (k, .refused .backfeed) := if_pos h

theorem Control.deadBusClose_claim {dead : Channel} {c : ClaimBus} (h : (nodeSources k dead).size = 0)
    (hc : channelClaim dead = some c) : k.deadBusClose e b p dead =
      if holdsClaim k c b p then k.bcuClose e b p none else k.requestClaim e c b p := by
  unfold Control.deadBusClose
  rw [if_neg (by omega), hc]

/-- A claim request is always told its position (R75). -/
theorem Control.requestClaim_place (c : ClaimBus) : ∃ k' place, k.requestClaim e c b p = (k', .claim place) := by
  unfold Control.requestClaim
  dsimp only
  repeat' split
  all_goals exact ⟨_, _, rfl⟩

end Sides

/-! ## The request -/

theorem shedActive_port {k : Control} {b : Breaker} {p : Port} : shedActive k b (.port p) = true ↔
    ∃ f, breakerBlock b = some f ∧ (k.blockRec f).state ∈ [.opening, .listed, .restoring] ∧
      k.tiu.supply.get (blockBus f) = .gen := by
  unfold shedActive
  cases hf : breakerBlock b with
  | none => simp
  | some f => simp [or_assoc]

/-- OPERATE_CLOSE before the first FRESH image, and of no breaker (R181, R183). -/
theorem exec_operateClose_early {p : Port} {x : Byte} {s : State} (hr : s.inReset = false) (hadm : s.admits p .operate)
    (h : s.sensed.mlr.firstFresh = false) : exec (.operateClose p x) s =
      .next { s with control := (s.asked p).respond p ⟨.refused .notReady, .bytes []⟩ } :=
  s.request_ownerRefused p .operate hr hadm (if_neg (by simp [h]))

theorem exec_operateClose_outOfRange {p : Port} {x : Byte} {s : State} (hr : s.inReset = false)
    (hadm : s.admits p .operate) (hfirst : s.sensed.mlr.firstFresh = true) (h : 18 < x.toNat) :
    exec (.operateClose p x) s =
      .next { s with control := (s.asked p).respond p ⟨.refused .range, .bytes []⟩ } :=
  s.request_ownerRefused p .operate hr hadm ((if_pos hfirst).trans (withBreaker_none _ h _))

/-- OPERATE_CLOSE of a breaker, by what its classification gives. -/
theorem exec_operateClose_demanded {p : Port} {x : Byte} {b : Breaker} {s : State} {k' : Control} {a : Answer}
    (hr : s.inReset = false) (hadm : s.admits p .operate) (hfirst : s.sensed.mlr.firstFresh = true)
    (hb : Breaker.ofIndex x.toNat = some b) (h : (s.asked p).closeDemand s.sensed b (.port p) = (k', a)) :
    exec (.operateClose p x) s = .next (s.settled (k'.respond p (demandAnswer a))) := by
  refine s.request_ownerTook p .operate hr hadm ((if_pos hfirst).trans ((withBreaker_some _ hb _).trans ?_))
  unfold Control.portClose
  rw [h]

/-- Settles O28, by the steps of the classification in order. -/
theorem operateCloseIsClassified : Obligations.OperateCloseIsClassified := by
  intro p x s hr hadm k e request
  refine ⟨exec_operateClose_early hr hadm, exec_operateClose_outOfRange hr hadm, fun b hb hfirst => ?_⟩
  intro r answered refused started held verdict shed
  have hverdict : breakerRefusal k b (.port p) none = verdict := breakerRefusal_eq_firstFailing
  have hrefused : ∀ {why}, k.classifyClose e b (.port p) = (k, .refused why) →
      exec request s = .next (refused why) := fun h =>
    exec_operateClose_demanded hr hadm hfirst hb (Control.closeDemand_refused h)
  have htaken : ∀ {k' : Control} {a : Answer}, k.classifyClose e b (.port p) = (k', a) → (∀ why, a ≠ .refused why) →
      exec request s = .next (s.settled (k'.respond p (demandAnswer a))) := fun h ha =>
    exec_operateClose_demanded hr hadm hfirst hb (Control.closeDemand_taken h ha)
  refine ⟨fun why h => hrefused (Control.classifyClose_refused (hverdict.trans h)),
    fun h hobs => htaken (Control.classifyClose_closed (hverdict.trans h) hobs) (fun _ => nofun), fun h hobs => ?_⟩
  have hpass := hverdict.trans h
  have hattempt : attemptOn k b = none := (startRefusal_none k b _ hpass).2
  have hclassify := Control.classifyClose_opened (e := e) hpass hobs
  have hstarted : k.classifyClose e b (.port p) = (k.beginClose e b (.port p) none, .started) →
      exec request s = .next started := fun h => htaken h fun _ => nofun
  have hcloses := Control.bcuClose_starts e k b (.port p) hpass hobs
  refine ⟨fun f hf hshed => hrefused ?_, fun hshed => ?_⟩
  · rw [hclassify, if_pos (shedActive_port.2 ⟨f, hf, hshed⟩)]
  rw [if_neg fun h => by
    obtain ⟨f, hf, h⟩ := shedActive_port.1 h
    exact hshed f hf h] at hclassify
  refine ⟨fun hout => hstarted (hclassify.trans (if_pos hout)), fun hin => ?_⟩
  rw [if_neg (by simp [hin])] at hclassify
  refine ⟨fun hfeeder => ?_, fun xNode hx => ?_⟩
  · rw [hfeeder] at hclassify
    refine ⟨fun hstale => hrefused ?_, fun hfresh hclass => hrefused ?_, fun hclass => hstarted ?_⟩
    · exact hclassify.trans (if_pos (by simp [hstale]))
    · refine hclassify.trans ((if_neg (by simp [hfresh])).trans (if_pos ?_))
      simp [isLive, hclass]
    · have hfresh : e.mlr.fresh = true := fresh_of_classOf (by rw [hclass]; decide)
      refine hclassify.trans ((if_neg (by simp [hfresh])).trans (if_neg ?_))
      simp [isLive, hclass]
  · intro rNode xClass rClass
    rw [hx] at hclassify
    refine ⟨fun hformed => hrefused (hclassify.trans (Control.classifySides_unformed hformed)), fun hformed =>
      ⟨fun hstale => hrefused (hclassify.trans (Control.classifySides_stale hformed hstale)),
      fun hfresh hind => hrefused (hclassify.trans (Control.classifySides_indeterminate hformed hfresh hind)),
      fun dead hdead => ?_, fun hxd hrd => ?_, fun hxl hrl => ?_⟩⟩
    · have hsides := hclassify.trans (Control.classifySides_deadBus hformed hdead)
      refine ⟨fun hsource => hrefused (hsides.trans (Control.deadBusClose_backfeed hsource)),
        fun hnone c hc => ⟨fun hholds => hstarted ?_, fun hholds => ?_⟩⟩
      · rw [hsides, Control.deadBusClose_claim hnone hc, if_pos hholds, hcloses]
      · obtain ⟨k', place, hplace⟩ := Control.requestClaim_place (e := e) (k := k) (b := b) (p := .port p) c
        refine ⟨k', place, hplace, htaken (k' := k') (a := .claim place) ?_ fun _ => nofun⟩
        rw [hsides, Control.deadBusClose_claim hnone hc, if_neg (by simp [hholds]), hplace]
    · have hsides := hclassify.trans (Control.classifySides_deadDead hformed hxd hrd)
      by_cases hsetting : k.common.deadDead.get b = true
      · rw [if_pos hsetting]
        exact hstarted (hsides.trans ((if_pos hsetting).trans hcloses))
      · rw [if_neg hsetting]
        exact hrefused (hsides.trans (if_neg hsetting))
    · intro merged
      have hsides := hclassify.trans (Control.classifySides_parallel hformed hxl hrl hx rfl)
      refine ⟨fun hmany => hrefused (hsides.trans (if_neg (Nat.not_le.2 hmany))), fun hone => ?_⟩
      have hcreate := hsides.trans (if_pos hone)
      exact ⟨fun hfull => hrefused (hcreate.trans (Control.createAttempt_full_port hattempt hfull ⟨p, rfl⟩)),
        fun n hn => htaken (hcreate.trans (Control.createAttempt_free hattempt hn)) fun _ => nofun⟩

end Sys2Proof.Machine
end

section
/-! A dead-bus claim from its request to its lapse. -/

namespace Sys2Proof.Machine

section Claims

variable {e : Sensed} {k : Control} {c : ClaimBus} {b : Breaker} {p : Party}

/-- Whether a claim is held for a breaker. -/
def heldFor (k : Control) (c : ClaimBus) (b : Breaker) : Bool :=
  match (k.claim c).holder with
  | some h => h.breaker = b
  | none => false

theorem heldFor_iff : heldFor k c b = true ↔ ∃ h, (k.claim c).holder = some h ∧ h.breaker = b := by
  unfold heldFor
  cases (k.claim c).holder <;> simp

/-- The blocks with the reservation that a port's request takes (R75). -/
def Control.requestReserved (k : Control) (b : Breaker) (p : Party) : Control :=
  match p with
  | .port q => k.modBreaker b fun r => { r with holder := some (.port q none) }
  | _ => k

/-- A claim request, by whether the breaker holds the claim or waits for it (R75). -/
theorem Control.requestClaim_eq : k.requestClaim e c b p =
    if heldFor k c b then (k, .claim 0)
    else if (k.claim c).waiting.any (fun r => r.breaker = b) then (k, .claim (requestPlace b (k.claim c).waiting))
    else
      (((k.requestReserved b p).setClaim c { k.claim c with
          waiting := placeRequest ⟨b, p, e.now⟩ (k.claim c).waiting }).claimOccasion e c,
        .claim (requestPlace b (placeRequest ⟨b, p, e.now⟩ (k.claim c).waiting))) := rfl

theorem Control.requestClaim_waits {r : ClaimRequest} (hr : r ∈ (k.claim c).waiting) (hb : r.breaker = b) :
    (k.requestClaim e c b p).1 = k := by
  have hany : (k.claim c).waiting.any (fun r => r.breaker = b) = true := List.any_eq_true.2 ⟨r, hr, decide_eq_true hb⟩
  rw [Control.requestClaim_eq, if_pos hany]
  split <;> rfl

/-- The place of the first request of a breaker in a waiting list (R75). -/
theorem requestPlace_split {before after : List ClaimRequest} {r : ClaimRequest} (hb : r.breaker = b)
    (hbefore : ∀ x ∈ before, x.breaker ≠ b) : requestPlace b (before ++ r :: after) = before.length + 1 := by
  have hnone : before.findIdx (fun r => decide (r.breaker = b)) = before.length :=
    List.findIdx_eq_length.2 fun x hx => by simpa using hbefore x hx
  unfold requestPlace
  rw [List.findIdx_append, hnone, if_neg (Nat.lt_irrefl _), List.findIdx_cons, decide_eq_true hb,
    cond_true, Nat.zero_add]

/-- A claim may be granted just on a FRESH image, with its bus dead and no source in the bus's group (R76). -/
theorem grantable_iff : grantable e k c = true ↔ e.mlr.fresh = true ∧ classOf e k (claimChannel c) = .dead ∧
    nodeSources k (claimChannel c) = ⟨false, false, false⟩ := by
  have hsize : ∀ s : SourceSet, s.size = 0 ↔ s = ⟨false, false, false⟩ := fun ⟨u1, u2, gen⟩ => by
    cases u1 <;> cases u2 <;> cases gen <;> decide
  unfold grantable
  rw [Bool.and_eq_true, Bool.and_eq_true, decide_eq_true_eq, decide_eq_true_eq, hsize, and_assoc]

/-- A free claim that may be granted goes to the head of its waiting list (R76). -/
theorem Control.tryGrant_granted {r : ClaimRequest} {rest : List ClaimRequest} (hw : (k.claim c).waiting = r :: rest)
    (hfree : (k.claim c).holder = none) (hgrant : grantable e k c = true) :
    k.tryGrant e c = { k with
      tiu := { k.tiu with claims := k.tiu.claims.set c {
        holder := some {
          breaker := r.breaker
          party := r.party
          grant := e.now
          lapse := e.now + BitVec.ofNat 32 (k.common.operateLimit.get r.breaker + 1000)
          started := false }
        waiting := rest } }
      erq := k.erq.append e.now .claimGranted (.bus c) .none r.breaker.index
      notices := k.notices ++ [.claimGranted c r.breaker r.party] } := by
  unfold Control.tryGrant
  rw [hw, hfree]
  exact if_pos hgrant

theorem Control.tryGrant_taken {h : ClaimHolder} (hh : (k.claim c).holder = some h) : k.tryGrant e c = k := by
  unfold Control.tryGrant
  rw [hh]

theorem Control.tryGrant_barred (h : ¬grantable e k c = true) : k.tryGrant e c = k := by
  unfold Control.tryGrant
  split
  · exact if_neg h
  · rfl

end Claims

/-- The lapse deadline of a claim ends its holder just while its close has not started (R77). -/
theorem exec_claimLapse {c : ClaimBus} {h : ClaimHolder} (s : State) (hr : s.inReset = false)
    (hh : (s.control.claim c).holder = some h) : exec (.claimLapse c) s = .next (s.settled
      (if !h.started && reached h.lapse s.now then s.blocks.endHolder s.sensed c .lapsed else s.blocks)) := by
  refine (s.act_settled _ hr).trans ?_
  rw [show (s.blocks.claim c).holder = some h from hh]
  rfl

/-- Settles O33, by the three outcomes of a request, the grant of the head, and the lapse of a holder. -/
theorem unstartedClaimLapses : Obligations.UnstartedClaimLapses := by
  refine ⟨fun e k c b p => ?_, fun e k c r rest hw => ?_, fun c h s hr hh =>
    ⟨fun hstarted hdue => ?_, fun hstarted => ?_⟩⟩
  · intro cl out
    have hout : out = _ := Control.requestClaim_eq
    refine ⟨fun h hh hb => ?_, fun r hr hb => Control.requestClaim_waits hr hb,
      fun before r after hw hb hbefore hfree => ?_, fun hfree hnone => ?_⟩
    · rw [hout, if_pos (heldFor_iff.2 ⟨h, hh, hb⟩)]
    · have hany : cl.waiting.any (fun r => r.breaker = b) = true :=
        List.any_eq_true.2 ⟨r, by rw [hw]; simp, decide_eq_true hb⟩
      rw [hout, if_neg fun h => ?_, if_pos hany]
      · rw [show (k.claim c).waiting = before ++ r :: after from hw, requestPlace_split hb hbefore]
      · obtain ⟨h, hh, hb⟩ := heldFor_iff.1 h
        exact hfree h hh hb
    · intro reserved
      obtain ⟨before, after, hsplit, hbefore, hafter, hplaced, hplace⟩ :=
        placeRequest_split { breaker := b, party := p, arrival := e.now } cl.waiting hnone
      refine ⟨before, after, hsplit, hbefore, hafter, ?_⟩
      rw [hout, if_neg fun h => ?_, if_neg fun h => ?_]
      · rw [show placeRequest _ (k.claim c).waiting = _ from hplaced,
          show requestPlace b (before ++ _ :: after) = _ from hplaced ▸ hplace]
        rfl
      · obtain ⟨r, hr, hb⟩ := List.any_eq_true.1 h
        exact hnone r hr (of_decide_eq_true hb)
      · obtain ⟨h, hh, hb⟩ := heldFor_iff.1 h
        exact hfree h hh hb
  · intro free
    refine ⟨fun ⟨hfree, hrest⟩ => Control.tryGrant_granted hw hfree (grantable_iff.2 hrest), fun hnot => ?_⟩
    cases hh : (k.claim c).holder with
    | some h => exact Control.tryGrant_taken hh
    | none => exact Control.tryGrant_barred fun hgrant => hnot ⟨hh, grantable_iff.1 hgrant⟩
  · rw [exec_claimLapse s hr hh, if_pos (by simp [hstarted, hdue])]
    unfold Control.endHolder
    rw [show (s.blocks.claim c).holder = some h from hh]
    rfl
  · rw [exec_claimLapse s hr hh, if_neg (by simp [hstarted]), State.settled_quiet _ _ s.blocks_notices]

end Sys2Proof.Machine
end

section
/-! The timers of TSQ, and the requests of hold and step. -/

namespace Sys2Proof.Machine

/-! ## The same change for every bus and every slot -/

theorem forEach_modXfer (k : Control) (f : TransferRec → TransferRec) :
    forEach Bus.all (fun l k => k.modXfer l f) k =
      { k with tsq := { k.tsq with records := .ofFn fun l => f (k.xfer l) } } := rfl

theorem forEach_modSlot (k : Control) (f : SlotRec → SlotRec) :
    forEach Slot.all (fun n k => k.modSlot n f) k =
      { k with gsc := { k.gsc with slots := .ofFn fun n => f (k.slot n) } } := rfl

/-! ## Timers -/

theorem stageDue_of {e : Sensed} {k : Control} {l : Bus} {stage : Stage} (hin : (k.xfer l).inProgress = true)
    (hdue : (k.xfer l).timer.due e.now = true) (h : (k.xfer l).stage = some stage) : stageDue e k l stage = true := by
  simp [stageDue, inStage, hin, hdue, h]

/-- RECOVER armed on every bus that is DEAD (R86). -/
theorem Control.armDead_both (k : Control) : (k.armDead .ba).armDead .bb =
    { k with tsq := { k.tsq with
      records := .ofFn fun l => { k.xfer l with
        recoverArmed := k.tiu.supply.get l = .dead || (k.xfer l).recoverArmed } } } := by
  have hone : ∀ (k : Control) (l : Bus), k.armDead l = k.modXfer l fun x =>
      { x with recoverArmed := k.tiu.supply.get l = .dead || x.recoverArmed } := fun k l => by
    unfold Control.armDead
    by_cases h : k.tiu.supply.get l = .dead
    · simp [h]
    · rw [if_neg h]
      simp only [h, decide_false, Bool.false_or]
      cases l <;> rfl
  rw [hone, hone]
  rfl

/-- Settles O36, by the condition of each timer's command. -/
theorem transferTimersExpire : Obligations.TransferTimersExpire := by
  intro s hr k
  refine ⟨fun l hin hdue => ?_, fun hdue => s.act_if _ hr hdue, fun hdue => ?_⟩
  · have hstage : ∀ {stage}, (k.xfer l).stage = some stage → stageDue s.sensed k l stage = true :=
      fun h => stageDue_of hin hdue h
    refine ⟨fun h => s.act_if _ hr (hstage h), fun h => s.act_if _ hr (hstage h), fun h => ?_, fun h => ?_⟩
    · have hexec := s.act_if (c := fun k => stageDue s.sensed k l .sourceWait = true)
        (fun k => if 0 < capacityOnline k then k.enterStage s.sensed l .preShed
          else k.endTransfer s.sensed l .noSource) hr (hstage h)
      refine ⟨fun hcap => ?_, fun hcap => ?_⟩
      · rw [if_pos hcap] at hexec
        exact hexec
      · rw [if_neg (by rw [show capacityOnline s.blocks = 0 from hcap]; decide)] at hexec
        exact hexec
    · refine s.act_if _ hr ?_
      rcases h with h | h
      · rw [hstage h, Bool.or_true]
      · rw [hstage h, Bool.true_or]
  · have hexec := s.act_if (c := fun k => k.tsq.startUpDelay.due s.now = true)
      (fun k => (((({ k with tsq := { k.tsq with startUpDelay := .off, startUpEnded := true } } : Control).armDead
        .ba).armDead .bb).judgeGbLoss s.sensed).triggers s.sensed) hr hdue
    rw [Control.armDead_both] at hexec
    refine ⟨⟨_, hexec, ?_, ?_⟩, hexec⟩
    · exact Control.startUpEnded_of_held (((s.settled_held _).trans (Control.triggers_held ..)).trans
        (Control.judgeGbLoss_held ..))
    · exact Control.startUpDelay_of_held (((s.settled_held _).trans (Control.triggers_held ..)).trans
        (Control.judgeGbLoss_held ..))

/-! ## Hold and step (R104 to R106) -/

theorem Control.enterHold_eq (e : Sensed) (k : Control) (p : Port) : ∃ cause value, k.enterHold e p = { k with
    tsq := { k.tsq with
      hold := true
      records := .ofFn fun l => { k.xfer l with timer := (k.xfer l).timer.suspend e.now } }
    gsc := { k.gsc with slots := .ofFn fun n => { k.slot n with ramp := (k.slot n).ramp.suspend e.now } }
    ldm := { k.ldm with restoreTimer := k.ldm.restoreTimer.suspend e.now }
    erq := k.erq.append e.now .holdEntered (.port p) cause value } := by
  unfold Control.enterHold Control.freezeStages Control.holdEnteredGsc
  simp only [forEach_modXfer, forEach_modSlot]
  exact ⟨_, _, rfl⟩

theorem Control.leaveHold_eq (e : Sensed) (k : Control) (cause : Cause) : ∃ subject value, k.leaveHold e cause =
    ({ k with
    tsq := { k.tsq with
      hold := false
      records := .ofFn fun l => { k.xfer l with
        stepPending := false
        timer := (k.xfer l).timer.resume e.now } }
    sye := { k.sye with slots := .ofFn fun n => (k.attempt n).map fun a => { a with stepPermission := false } }
    erq := k.erq.append e.now .holdLeft subject cause value } : Control).tell
      [.progress .ba, .progress .bb, .holdEnded] := by
  unfold Control.leaveHold Control.withdrawSteps
  simp only [forEach_modXfer]
  exact ⟨_, _, rfl⟩

section Step

variable {e : Sensed} {k : Control} {l : Bus}

theorem Control.takeStep_noHold (h : k.tsq.hold = false) : Control.takeStep e l k = (k, refusal .hold) :=
  if_pos (by simp [h])

theorem Control.takeStep_idle (h : k.tsq.hold = true) (hin : (k.xfer l).inProgress = false) :
    Control.takeStep e l k = (k, refusal .inconsistent) := by
  simp [Control.takeStep, h, hin]

theorem Control.takeStep_pending (h : k.tsq.hold = true) (hin : (k.xfer l).inProgress = true)
    (hstep : (k.xfer l).stepPending = true) : Control.takeStep e l k = (k, plain .done) := by
  simp [Control.takeStep, h, hin, hstep]

theorem Control.takeStep_taken (h : k.tsq.hold = true) (hin : (k.xfer l).inProgress = true)
    (hstep : (k.xfer l).stepPending = false) : Control.takeStep e l k =
      ((k.modXfer l fun x => { x with stepPending := true }).useStep e l, plain .done) := by
  simp [Control.takeStep, h, hin, hstep]

end Step

/-- Settles O38, by the conditions of each request and what entering and leaving hold change. -/
theorem holdAndStepAreTaken : Obligations.HoldAndStepAreTaken := by
  intro s hr k answer
  have hpanel : s.admits .cpP .panel := rfl
  have hnotices : k.notices = [] := s.asked_notices .cpP
  have hbus : ∀ {x l}, busOf x = some l → exec (.step .cpP x) s = s.request .cpP .panel (Control.takeStep s.sensed l) :=
    fun {x l} hx => by
      refine congrArg (s.request .cpP .panel) (funext fun k => ?_)
      unfold withBus
      rw [hx]
  refine ⟨fun hkey => ?_, fun hkey => ⟨fun hhold => ?_, fun hhold => ?_⟩, fun hhold => ?_, fun hhold => ?_,
    fun x hx => ?_, fun x l hx => ⟨fun hhold => ?_, fun hhold hin => ?_, fun hhold hin => ⟨fun hstep => ?_,
    fun hstep => ?_⟩⟩⟩
  · exact s.request_ownerRefused .cpP .panel hr hpanel (if_pos (hkey ▸ rfl))
  · exact s.request_ownerAnswered .cpP .panel hr hpanel ((if_neg (by rw [hkey]; decide)).trans (if_pos hhold)) hnotices
  · obtain ⟨cause, value, hentered⟩ := k.enterHold_eq s.sensed .cpP
    refine ⟨cause, value, s.request_ownerAnswered .cpP .panel hr hpanel ((if_neg (by rw [hkey]; decide)).trans
      ((if_neg (by rw [hhold]; decide)).trans (congrArg (·, plain .done) hentered))) hnotices⟩
  · exact s.request_ownerAnswered .cpP .panel hr hpanel (congrArg (·, plain .done) (if_neg (by rw [hhold]; decide)))
      hnotices
  · obtain ⟨subject, value, hleft⟩ := k.leaveHold_eq s.sensed .release
    have hleave : (if k.tsq.hold then k.leaveHold s.sensed .release else k) = _ := (if_pos hhold).trans hleft
    have hexec := s.request_ownerTook .cpP .panel hr hpanel
      (owner := fun k => (if k.tsq.hold then k.leaveHold s.sensed .release else k, plain .done))
      (congrArg (·, plain .done) hleave)
    exact ⟨⟨_, hexec, Control.hold_of_held (s.settled_held _)⟩, subject, value, hexec⟩
  · refine s.request_ownerRefused .cpP .panel hr hpanel ?_
    unfold withBus
    rw [hx]
  · rw [hbus hx]
    exact s.request_ownerRefused .cpP .panel hr hpanel (Control.takeStep_noHold hhold)
  · rw [hbus hx]
    exact s.request_ownerRefused .cpP .panel hr hpanel (Control.takeStep_idle hhold hin)
  · rw [hbus hx]
    exact s.request_ownerAnswered .cpP .panel hr hpanel (Control.takeStep_pending hhold hin hstep) hnotices
  · rw [hbus hx]
    exact s.request_ownerTook .cpP .panel hr hpanel (Control.takeStep_taken hhold hin hstep)

end Sys2Proof.Machine
end

section
/-! The panel's keys (R164). -/

namespace Sys2Proof.Machine

section Effect

variable (e : Sensed) (key : Key) (k : Control)

/-- The key's input taken as its level, its timing over. -/
def Control.keyTaken : Control :=
  k.modKey key fun r => { r with level := r.input, timing := .off, fromReset := false }

/-- The key's input taken as its level, recorded unless it is the level found at reset. -/
def Control.keyRecorded : Control :=
  if (k.cpi.keys.get key).fromReset then k.keyTaken key
  else (k.keyTaken key).record e .roleChange (.port .cpP) (Key.cause key) (k.cpi.keys.get key).input.toNat

theorem Control.keyRecorded_cpi : (k.keyRecorded e key).cpi = (k.keyTaken key).cpi := by
  unfold Control.keyRecorded
  split <;> rfl

theorem Control.keyRecorded_notices : (k.keyRecorded e key).notices = k.notices := by
  unfold Control.keyRecorded
  split <;> rfl

theorem Control.keyRecorded_hold : (k.keyRecorded e key).tsq.hold = k.tsq.hold := by
  unfold Control.keyRecorded
  split <;> rfl

theorem Control.keyEffect_eq : k.keyEffect e key =
    if key = .localKey && !(k.cpi.keys.get key).input && k.tsq.hold then
      (k.keyRecorded e key).leaveHold e .keyReleased
    else k.keyRecorded e key := by
  rw [← k.keyRecorded_hold e key]
  rfl

theorem Control.keyEffect_cpi : (k.keyEffect e key).cpi = (k.keyTaken key).cpi := by
  rw [k.keyEffect_eq e key]
  split
  · rw [Control.leaveHold_cpi, k.keyRecorded_cpi]
  · exact k.keyRecorded_cpi e key

end Effect

/-- Settles O50, by the two commands of a key: its input and its timing. -/
theorem keyLevelsTakeEffect : Obligations.KeyLevelsTakeEffect := by
  intro key s hr k r cause
  refine ⟨fun level => ⟨fun h => if_pos h.symm, fun h => ?_⟩, fun hdue => ?_⟩
  · refine (if_neg (Ne.symm h)).trans ((if_neg (by simp [hr])).trans ?_)
    exact s.act_quiet (fun k => k.modKey key fun r => r.take s.sensed.now level) hr rfl
  · intro k1 k2
    have hrecorded : s.blocks.keyRecorded s.sensed key = if r.fromReset then k1 else k2 := by
      cases key <;> rfl
    have hexec : exec (.keyChangeEffect key) s = .next (s.settled (s.blocks.keyEffect s.sensed key)) :=
      s.act_if _ hr hdue
    refine ⟨⟨_, hexec, ?_⟩, fun h => ?_, fun hkey hin hhold => ?_⟩
    · rw [Control.cpi_of_held (s.settled_held _), Control.keyEffect_cpi]
      exact congrArg KeyRec.level (PerKey.get_modify_same s.blocks.cpi.keys key _)
    · have hstays : s.blocks.keyEffect s.sensed key = s.blocks.keyRecorded s.sensed key :=
        (s.blocks.keyEffect_eq s.sensed key).trans (if_neg (by
          rcases h with h | h | h
          · simp [h]
          · simp [show (s.blocks.cpi.keys.get key).input = true from h]
          · simp [show s.blocks.tsq.hold = false from h]))
      rw [hexec, hstays, State.settled_quiet _ _ (Control.keyRecorded_notices ..), hrecorded]
    · have hleaves : s.blocks.keyEffect s.sensed key =
          (s.blocks.keyRecorded s.sensed key).leaveHold s.sensed .keyReleased :=
        (s.blocks.keyEffect_eq s.sensed key).trans (if_pos (by
          simp [hkey, show (s.blocks.cpi.keys.get .localKey).input = false from hkey ▸ hin,
            show s.blocks.tsq.hold = true from hhold]))
      rw [hexec, hleaves, hrecorded]

end Sys2Proof.Machine
end

section
/-! The settings store: the completion of a write, setting writes, and the curve load buffer. -/

namespace Sys2Proof.Machine

/-! ## Unstored indications -/

theorem Unstored.has_iff (u : Unstored) (r : ItemRef) : u.has r = if r ∈ u.except then !u.base else u.base := by
  simp [Unstored.has]

/-- A value set or cleared reads so, and the others stand. -/
theorem Unstored.has_put (u : Unstored) (r x : ItemRef) (flag : Bool) :
    (u.put r flag).has x = if x = r then flag else u.has x := by
  unfold Unstored.put
  by_cases hflag : flag = u.base
  · simp only [if_pos hflag, Unstored.has_iff, List.mem_filter, decide_eq_true_eq]
    by_cases hx : x = r <;> simp [hx, hflag]
  · have hopp : flag = !u.base := Bool.eq_not.2 hflag
    rw [if_neg hflag]
    split
    next hmem =>
      by_cases hx : x = r
      · simp [hx, Unstored.has_iff, List.contains_iff_mem.1 hmem, hopp]
      · simp [hx]
    next =>
      by_cases hx : x = r <;> simp [hx, Unstored.has_iff, hopp]

/-! ## Lockouts -/

theorem copyLockouts_get (src dst : StoreData) (bs : List Breaker) (b : Breaker) :
    (copyLockouts src dst bs).lockout.get b = if b ∈ bs then src.lockout.get b else dst.lockout.get b := by
  have hfold : ∀ t : PerBreaker Lockout, (bs.foldl (fun t b => t.set b (src.lockout.get b)) t).get b =
      if b ∈ bs then src.lockout.get b else t.get b := by
    induction bs with
    | nil => intro t; simp
    | cons a l ih =>
      intro t
      rw [List.foldl_cons, ih, PerBreaker.get_set]
      by_cases hl : b ∈ l <;> by_cases ha : b = a <;> simp [hl, ha]
  exact hfold dst.lockout

/-! ## The completion of a write -/

section Completion

variable (e : Sensed) (k : Control)

/-- The event queue after the events of a failed verify. -/
def Erq.faulted (now : Word32) (q : Erq) : WriteKind → Erq
  | .setting p r => q.append now .storeFault (.port p) .setting r.item.code
  | .service b => q.append now .storeFault (.breaker b) .service b.index
  | .curve p c => q.append now .storeFault (.port p) .curve c.index
  | .group p g => q.append now .storeFault (.port p) .group g.index
  | .lockout bs => bs.foldl (fun q b => q.append now .storeFault (.breaker b) .lockout b.index) q
  | .defaults => q.append now .storeFault .none .defaults 0

theorem forEach_record (bs : List Breaker) (kind : EventKind) (cause : Cause) :
    forEach bs (fun b k => k.record e kind (.breaker b) cause b.index) k =
      { k with erq := bs.foldl (fun q b => q.append e.now kind (.breaker b) cause b.index) k.erq } := by
  induction bs generalizing k with
  | nil => rfl
  | cons b l ih => exact ih _

theorem Control.storeFaults_eq (kind : WriteKind) :
    k.storeFaults e kind = { k with erq := Erq.faulted e.now k.erq kind } := by
  cases kind with
  | lockout bs => exact forEach_record e k bs _ _
  | _ => rfl

theorem Control.writePending_none (h : k.sst.pendingLockouts = []) : k.writePending e = k := by
  unfold Control.writePending
  rw [h]

theorem Control.writePending_some (h : k.sst.pendingLockouts ≠ []) : k.writePending e =
    { k with sst := { k.sst with
      pendingLockouts := []
      write := some {
        kind := .lockout k.sst.pendingLockouts
        data := copyLockouts k.sst.working k.sst.image k.sst.pendingLockouts
        start := e.now } } } := by
  unfold Control.writePending
  split
  next hnil => exact absurd hnil h
  next => rfl

theorem Sst.stored_setting (s : Sst) {w : Write} {p : Port} {r : ItemRef} (h : w.kind = .setting p r) :
    (s.stored w).unstored = s.unstored.put r false := by
  simp [Sst.stored, h]

theorem Sst.stored_defaults (s : Sst) {w : Write} (h : w.kind = .defaults) :
    (s.stored w).unstored = ⟨false, []⟩ := by
  simp [Sst.stored, h]

/-- The write in flight over, before the pending lockouts are taken up. -/
def Control.writeOver (w : Write) (verified : Bool) : Control :=
  if verified then { k with sst := { k.sst.stored w with write := none } }
  else { k with sst := { k.sst with write := none }, erq := Erq.faulted e.now k.erq w.kind }

theorem Control.completeWrite_eq (w : Write) (verified : Bool) :
    k.completeWrite e w verified = (k.writeOver e w verified).writePending e := by
  unfold Control.completeWrite Control.writeOver
  rw [Control.storeFaults_eq]

theorem Control.writeOver_pending (w : Write) (verified : Bool) :
    (k.writeOver e w verified).sst.pendingLockouts = k.sst.pendingLockouts := by
  cases verified <;> rfl

theorem Control.writeOver_working (w : Write) (verified : Bool) :
    (k.writeOver e w verified).sst.working = k.sst.working := by
  cases verified <;> rfl

theorem Control.writeOver_write (w : Write) (verified : Bool) : (k.writeOver e w verified).sst.write = none := by
  cases verified <;> rfl

/-- What the pending lockouts change: the write in flight and their own list. -/
theorem Control.writePending_frame : ∃ write, k.writePending e =
    { k with sst := { k.sst with pendingLockouts := [], write := write } } := by
  by_cases h : k.sst.pendingLockouts = []
  · refine ⟨k.sst.write, (k.writePending_none e h).trans ?_⟩
    rw [← h]
  · exact ⟨_, k.writePending_some e h⟩

end Completion

/-- Settles O51, by the verify's outcome and then the pending lockouts. -/
theorem nonvolatileWritesComplete : Obligations.NonvolatileWritesComplete := by
  intro w ok s hr hw old
  have hexec : exec (.nonvolatileWriteCompletion ok) s =
      .next { s with control := (s.blocks.writeOver s.sensed w ok).writePending s.sensed } := by
    have hwrite : s.blocks.sst.write = some w := hw
    refine (s.act_settled _ hr).trans ?_
    simp only [hwrite, Control.completeWrite_eq]
    refine congrArg _ (s.settled_quiet _ ?_)
    obtain ⟨write, hframe⟩ := (s.blocks.writeOver s.sensed w ok).writePending_frame s.sensed
    rw [hframe]
    cases ok <;> rfl
  have hpending : (s.blocks.writeOver s.sensed w ok).sst.pendingLockouts = old.pendingLockouts :=
    s.blocks.writeOver_pending s.sensed w ok
  obtain ⟨write, hframe⟩ := (s.blocks.writeOver s.sensed w ok).writePending_frame s.sensed
  refine ⟨_, hexec, ?_, ?_, ?_, fun hnil => ?_, fun hsome => ?_, fun hok => ?_, fun hok => ?_⟩
  · rw [hframe]
    cases ok <;> rfl
  · rw [hframe]
    exact s.blocks.writeOver_working s.sensed w ok
  · rw [hframe]
  · rw [Control.writePending_none _ _ (hpending.trans hnil)]
    exact s.blocks.writeOver_write s.sensed w ok
  · rw [Control.writePending_some _ _ (hpending ▸ hsome), hpending, Control.writeOver_working]
    exact ⟨_, rfl, rfl, rfl, fun b => copyLockouts_get _ _ _ b⟩
  · rw [hframe]
    subst hok
    refine ⟨rfl, rfl, fun p r hkind x => ?_, fun hkind x => ?_⟩
    · exact (congrArg (Unstored.has · x) (old.stored_setting hkind)).trans (old.unstored.has_put r x false)
    · exact congrArg (Unstored.has · x) (old.stored_defaults hkind)
  · rw [hframe]
    subst hok
    refine ⟨rfl, rfl, ?_⟩
    obtain ⟨kind, data, start⟩ := w
    cases kind <;> rfl

end Sys2Proof.Machine
end

section
/-! The curve load buffer (R149, R150). -/

namespace Sys2Proof.Machine

/-! ## The curve named -/

theorem CurveNo.ofIndex_outOfRange {n : Nat} (h : 3 < n) : CurveNo.ofIndex n = none := by
  obtain ⟨m, rfl⟩ := Nat.exists_eq_add_of_le' h
  rfl

section Named

variable (p : Port) {x : Byte} (s : State)

theorem exec_curveBegin_outOfRange (h : 3 < x.toNat) :
    exec (.curveBegin p x) s = s.request p .setting fun k => (k, refusal .range) := by
  change execCurveBegin p x s = _
  simp only [execCurveBegin, curveOf, CurveNo.ofIndex_outOfRange h]

theorem exec_curveBegin_inRange {c : CurveNo} (h : CurveNo.ofIndex x.toNat = some c) :
    exec (.curveBegin p x) s = s.request p .setting (Control.beginCurve p c) := by
  change execCurveBegin p x s = _
  simp only [execCurveBegin, curveOf, h]

end Named

/-! ## The rows of CURVE_ENTRY (R150) -/

section Rows

variable (e : Sensed) (p : Port) (x : CurveEntry) {k : Control}

theorem Control.curveEntry_stranger (h : k.pru.buffer.owner ≠ some p) :
    Control.curveEntry e p x k = (k, refusal .inconsistent) :=
  if_pos h

variable (howner : k.pru.buffer.owner = some p)

include howner in
theorem Control.curveEntry_outOfRange (h : entryInRange x = false) :
    Control.curveEntry e p x k = (k, refusal .range) :=
  (if_neg (not_not_intro howner)).trans (if_pos (by simp [h]))

variable (hinside : entryInRange x = true)
include howner hinside

theorem Control.curveEntry_owned : Control.curveEntry e p x k =
    if k.pru.buffer.index < 15 then
      (k.putBuffer { k.pru.buffer with
        index := k.pru.buffer.index + 1
        entries := k.pru.buffer.entries ++ [x] }, plain .done)
    else if k.storeBusy then (k, refusal .storeBusy)
    else k.validateCurve e p (k.pru.buffer.entries ++ [x]) :=
  (if_neg (not_not_intro howner)).trans (if_neg (by simp [hinside]))

theorem Control.curveEntry_last (h : k.pru.buffer.index = 15) : Control.curveEntry e p x k =
    if k.storeBusy then (k, refusal .storeBusy) else k.validateCurve e p (k.pru.buffer.entries ++ [x]) :=
  (Control.curveEntry_owned e p x howner hinside).trans (if_neg (by omega))

end Rows

/-- A valid table replaces the working one, and starts the write of that table alone. -/
theorem Control.replaceCurve_eq (e : Sensed) (p : Port) (c : CurveNo) (t : List CurveEntry) (k : Control) :
    k.replaceCurve e p c t = { k with
      sst := { k.sst with
        working := { k.sst.working with curves := k.sst.working.curves.set c t }
        write := some {
          kind := .curve p c
          data := { k.sst.image with curves := k.sst.image.curves.set c t }
          start := e.now } }
      erq := k.erq.append e.now .settingChanged (.port p) .curve c.index } := by
  simp only [Control.replaceCurve, Control.startWrite, Sst.writeData, Control.record, Control.putWorking,
    PerCurve.get_set_same]

/-- Settles O54, by the rows of CURVE_BEGIN and CURVE_ENTRY. -/
theorem curvesAreLoadedThroughTheBuffer : Obligations.CurvesAreLoadedThroughTheBuffer := by
  intro p x threshold rate s hr hadm k b answer put entry request inside emptied table
  have hquiet : k.notices = [] := s.asked_notices p
  have hrange : entryInRange entry = true ↔ inside := by
    have hthreshold : entry.threshold ≤ 65535 := Nat.le_of_lt_succ threshold.isLt
    simp only [entryInRange, Bool.and_eq_true, decide_eq_true_eq]
    exact ⟨fun ⟨⟨⟨hmin, _⟩, hpos⟩, hmax⟩ => ⟨hmin, hpos, hmax⟩,
      fun ⟨hmin, hpos, hmax⟩ => ⟨⟨⟨hmin, hthreshold⟩, hpos⟩, hmax⟩⟩
  refine ⟨fun hx => ?_, fun c hc => ?_, fun h => ?_, fun howner => ⟨fun hout => ?_, fun hin => ⟨fun hindex => ?_,
    fun hlast => ⟨fun hbusy => ?_, fun hidle => ⟨fun hvalid => ?_, fun hvalid => ?_⟩⟩⟩⟩⟩
  · exact (exec_curveBegin_outOfRange p s hx).trans (s.request_ownerRefused p .setting hr hadm rfl)
  · exact (exec_curveBegin_inRange p s hc).trans (s.request_ownerAnswered p .setting hr hadm rfl hquiet)
  · exact s.request_ownerRefused p .setting hr hadm (Control.curveEntry_stranger s.sensed p entry h)
  · exact s.request_ownerRefused p .setting hr hadm (Control.curveEntry_outOfRange s.sensed p entry howner
      (Bool.eq_false_iff.2 (mt hrange.1 hout)))
  · exact s.request_ownerAnswered p .setting hr hadm ((Control.curveEntry_owned s.sensed p entry howner
      (hrange.2 hin)).trans (if_pos (Nat.lt_succ_of_le hindex))) hquiet
  · exact s.request_ownerRefused p .setting hr hadm ((Control.curveEntry_last s.sensed p entry howner
      (hrange.2 hin) hlast).trans (if_pos hbusy))
  · have hvalidate := (Control.curveEntry_last s.sensed p entry howner (hrange.2 hin) hlast).trans
      (if_neg (by simp [Control.storeBusy, show k.sst.write = none from hidle]))
    exact s.request_ownerAnswered p .setting hr hadm (hvalidate.trans (if_neg (ne_true_of_eq_false hvalid))) hquiet
  · have hvalidate := (Control.curveEntry_last s.sensed p entry howner (hrange.2 hin) hlast).trans
      (if_neg (by simp [Control.storeBusy, show k.sst.write = none from hidle]))
    exact s.request_ownerAnswered p .setting hr hadm (hvalidate.trans ((if_pos hvalid).trans
      (congrArg (·, plain .done) (Control.replaceCurve_eq s.sensed p b.curve table _)))) hquiet

end Sys2Proof.Machine
end

section
/-! Setting writes (R175). -/

namespace Sys2Proof.Machine

/-! ## What the blocks do at a setting write leaves the store -/

section Store

variable (e : Sensed) (k : Control) (n : Slot)

theorem Freed.endActivity : Freed k (k.endActivity e n) := by
  have hended : ∀ {k' : Control}, Freed k k' →
      Freed k ((k'.endClaims e (slotBreaker n) (.gen n) .cancelled).releaseReservation (slotBreaker n) (.gen n)) :=
    fun h => h.trans Claimed.refl.endClaims.releaseReservation.toFreed
  unfold Control.endActivity
  split
  · exact hended Claimed.refl.toFreed.endAttempt
  · exact hended Claimed.refl.toFreed

theorem Control.slotEntered_sst (state : SlotState) (cause : Cause) :
    (k.slotEntered e n state cause).sst = k.sst :=
  (Claimed.reservationLeft k n state).sst

/-- A slot that is not ONLINE and does not come ONLINE changes no capacity, and so no setting or write. -/
theorem Control.setSlotState_sst {state : SlotState} (cause : Cause) (hwas : (k.slot n).state ≠ .online)
    (his : state ≠ .online) : (k.setSlotState e n state cause).sst = k.sst := by
  rw [Control.setSlotState_eq, if_pos (decide_eq_decide.2 (iff_of_false hwas his)), Control.slotEntered_sst]

theorem restState_ne_online : restState k n ≠ .online := by
  unfold restState
  split <;> nofun

theorem Control.restSlot_sst (cause : Cause) (hwas : (k.slot n).state ≠ .online) :
    (k.restSlot e n cause).sst = k.sst := by
  have hfreed := Freed.endActivity e k n
  have hslot : (k.endActivity e n).slot n = k.slot n := congrArg (fun g : Gsc => g.slots.get n) hfreed.gsc
  exact (Control.setSlotState_sst e _ n cause (hslot ▸ hwas) (restState_ne_online _ n)).trans hfreed.sst

theorem Control.ite_sst {c : Prop} [Decidable c] {k' : Control} {x : Sst} (h : k.sst = x) (h' : k'.sst = x) :
    (if c then k else k').sst = x := by
  split <;> assumption

theorem Control.judgeAvailable_sst (cause : Cause) : (k.judgeAvailable e n cause).sst = k.sst := by
  have hne : ∀ {state : SlotState}, (k.slot n).state = state → state ≠ .online → (k.slot n).state ≠ .online :=
    fun h => h ▸ id
  have hrest : (k.slot n).state ≠ .online → (k.restSlot e n cause).sst = k.sst := k.restSlot_sst e n cause
  unfold Control.judgeAvailable
  dsimp only
  split
  next h => exact Control.ite_sst _ (k.setSlotState_sst e n cause (hne h nofun) nofun) rfl
  next h => exact Control.ite_sst _ rfl (k.setSlotState_sst e n cause (hne h nofun) nofun)
  next h => exact Control.ite_sst _ rfl (hrest (hne h nofun))
  next h => exact Control.ite_sst _ rfl (hrest (hne h nofun))
  next h =>
    exact Control.ite_sst _ rfl (Control.ite_sst _ rfl (Control.ite_sst _ (hrest (hne h nofun)) rfl))
  next h =>
    exact Control.ite_sst _ rfl (Control.ite_sst _ rfl (Control.ite_sst _ (hrest (hne h nofun)) rfl))
  next => rfl

theorem Control.ratingWritten_sst (old : Nat) : (k.ratingWritten e old).sst = k.sst := by
  obtain ⟨_, _, _, h⟩ := k.capacitySmn_eq e
  exact Control.ite_sst _ rfl ((congrArg Control.sst h).trans rfl)

theorem Control.updateRequired_sst : k.updateRequired.sst = k.sst := Control.ite_sst _ rfl rfl

theorem Control.reclamp_sst : k.reclamp.sst = k.sst := by
  unfold Control.reclamp
  refine forEach_kept (g := Control.sst) (fun _ _ => ?_) _ _
  rfl

theorem Control.settingWritten_sst (r : ItemRef) (old : Nat) : (k.settingWritten e r old).sst = k.sst := by
  unfold Control.settingWritten
  split
  · exact k.judgeAvailable_sst e _ _
  · exact k.ratingWritten_sst e old
  · rfl
  · exact k.reclamp_sst
  · exact k.reclamp_sst
  · exact k.updateRequired_sst
  · exact k.sortShedList.updateRequired_sst
  · rfl
  · exact Control.ite_sst _ rfl rfl

end Store

/-! ## The value written -/

section Value

variable (d : StoreData) (g : GroupNo) (i : Item) (u : ItemUnit) (v : Nat)

theorem StoreData.writeItem_group (h : i.isGroup = true) :
    d.writeItem g i u v = { d with groups := d.groups.modify g fun s => s.write i u v } := if_pos h

theorem StoreData.writeItem_common (h : i.isGroup = false) :
    d.writeItem g i u v = { d with common := d.common.write i u v } := if_neg (ne_true_of_eq_false h)

theorem StoreData.writeItem_active : (d.writeItem g i u v).active = d.active := by
  unfold StoreData.writeItem
  split <;> rfl

end Value

theorem itemNamed_group {k : Control} {p : Port} {code index : Byte} {r : ItemRef}
    (h : itemNamed k p code index = some r) : r.group = if r.item.isGroup then (k.port p).window else .n0 := by
  unfold itemNamed at h
  split at h
  next i _ =>
    obtain ⟨u, -, rfl⟩ := Option.map_eq_some_iff.1 h
    rfl
  next => cases h

/-! ## A write taken -/

section Taken

variable (e : Sensed) (p : Port) (r : ItemRef) (v : Nat) (k : Control)

/-- What a taken write leaves of the store: the value, and the write that stores it. -/
theorem Control.writeSetting_sst : (k.writeSetting e p r v).sst =
    { k.sst with
      working := k.sst.working.writeItem r.group r.item r.unit v
      write := some {
        kind := .setting p r
        data := ({ k.sst with working := k.sst.working.writeItem r.group r.item r.unit v } : Sst).writeData
          (.setting p r)
        start := e.now }
      unstored := k.sst.unstored.put r true } :=
  Control.settingWritten_sst ..

end Taken

/-! ## The checks -/

section Checks

variable (p : Port) {code index : Byte} (value : Word32) (s : State) (hr : s.inReset = false)
  (hadm : s.admits p .setting)
include hr hadm

theorem exec_settingWrite_none (h : itemNamed (s.asked p) p code index = none) :
    exec (.settingWrite p code index value) s = .next { s with control := (s.asked p).respond p (refusal .range) } := by
  refine s.request_ownerRefused p .setting hr hadm ?_
  simp only [h]

variable {r : ItemRef} (h : itemNamed (s.asked p) p code index = some r)
include h

theorem exec_settingWrite_refused {why : Reason} (hwhy : writeRefusal (s.asked p) r value.toNat = some why) :
    exec (.settingWrite p code index value) s = .next { s with control := (s.asked p).respond p (refusal why) } := by
  refine s.request_ownerRefused p .setting hr hadm ?_
  simp only [h, Control.requestWrite, hwhy]

theorem exec_settingWrite_taken (hpass : writeRefusal (s.asked p) r value.toNat = none) :
    exec (.settingWrite p code index value) s =
      .next (s.settled (((s.asked p).writeSetting s.sensed p r value.toNat).respond p ⟨.done, .bytes []⟩)) := by
  refine s.request_ownerTook p .setting hr hadm ?_
  simp only [h, Control.requestWrite, hpass]
  rfl

end Checks

/-- Settles O53, by the checks in their order and the store a taken write leaves. -/
theorem settingsAreWrittenByTheChecks : Obligations.SettingsAreWrittenByTheChecks := by
  intro p code index value s hr hadm k request answer
  refine ⟨fun hnone => exec_settingWrite_none p value s hr hadm hnone, fun r hr' => ?_⟩
  intro written group sound verdict
  have hverdict : verdict = writeRefusal k r value.toNat := rfl
  have hsst : k.sst = s.control.sst := (congrArg Control.sst (s.asked_eq p)).trans rfl
  refine ⟨fun hgroup => ?_, fun why hwhy => exec_settingWrite_refused p value s hr hadm hr' hwhy, fun hpass => ?_⟩
  · rw [itemNamed_group hr', if_pos hgroup]
  have hwritten := k.writeSetting_sst s.sensed p r value.toNat
  have hexec := exec_settingWrite_taken p value s hr hadm hr' hpass
  have hheld := s.settled_held ((k.writeSetting s.sensed p r value.toNat).respond p ⟨.done, .bytes []⟩)
  have hcommon := (Control.common_of_held hheld).trans (congrArg (fun x : Sst => x.working.common) hwritten)
  have hgroups := (Control.groups_of_held hheld).trans (congrArg (fun x : Sst => x.working.groups) hwritten)
  have hactive := (Control.active_of_held hheld).trans (congrArg (fun x : Sst => x.working.active) hwritten)
  have himage := (Control.image_of_held hheld).trans (congrArg (fun x : Sst => x.image) hwritten)
  have hunstored := (Control.unstored_of_held hheld).trans (congrArg (fun x : Sst => x.unstored) hwritten)
  refine ⟨hexec, ⟨_, congrArg (fun x : Sst => x.write) hwritten, rfl, rfl⟩, _, hexec, hcommon, hgroups,
    hactive.trans (StoreData.writeItem_active ..), fun hgroup => ⟨hcommon.trans ?_, fun g hg => ?_⟩,
    fun hitem => hgroups.trans ?_,
    himage.trans (show k.sst.image = _ from congrArg (fun x : Sst => x.image) hsst), fun x => ?_⟩
  · dsimp only
    rw [StoreData.writeItem_group _ _ _ _ _ hgroup, hsst]
    rfl
  · rw [hgroups]
    dsimp only
    rw [StoreData.writeItem_group _ _ _ _ _ hgroup, hsst]
    exact PerGroup.get_set_other _ _ hg
  · dsimp only
    rw [StoreData.writeItem_common _ _ _ _ _ hitem, hsst]
  · rw [hunstored, ← hsst]
    exact k.sst.unstored.has_put r x true

end Sys2Proof.Machine
end

section
/-! The expiry of an overlap timer (R81). -/

namespace Sys2Proof.Machine

section Targets

variable (k : Control) (o : OverlapTimer)

/-- The mains of the group that are possibly closed. -/
def overlapMains : List Breaker :=
  [Breaker.ma, Breaker.mb].filter fun b => possiblyClosed k b && o.group.get (breakerR b)

/-- What is tripped if the arriving breaker is not. -/
def overlapRest : List Breaker := if (overlapMains k o).isEmpty then [.tie] else overlapMains k o

theorem overlapTargets_arriving {b : Breaker} (h : o.arriving = some b) (hclosed : possiblyClosed k b = true) :
    overlapTargets k o = [b] := by
  simp [overlapTargets, h, hclosed]

theorem overlapTargets_rest (h : ∀ b, o.arriving = some b → possiblyClosed k b = false) :
    overlapTargets k o = overlapRest k o := by
  unfold overlapTargets overlapRest overlapMains
  cases harr : o.arriving with
  | none => rfl
  | some b => simp [h b harr]

theorem mem_overlapMains {b : Breaker} : b ∈ overlapMains k o ↔
    (b = .ma ∨ b = .mb) ∧ possiblyClosed k b = true ∧ o.group.get (breakerR b) = true := by
  simp [overlapMains]

/-- TIE is tripped just if no main is, and nothing but the mains and TIE is. -/
theorem mem_overlapRest {b : Breaker} : b ∈ overlapRest k o ↔
    b ∈ overlapMains k o ∨ (b = .tie ∧ ∀ a, a ∉ overlapMains k o) := by
  unfold overlapRest
  by_cases h : overlapMains k o = []
  · simp [h]
  · obtain ⟨a, ha⟩ := List.exists_mem_of_ne_nil _ h
    rw [if_neg (by simpa using h)]
    exact ⟨.inl, fun hb => hb.elim id fun ⟨_, hnone⟩ => absurd ha (hnone a)⟩

end Targets

/-- Settles O34, by the one timer found and the targets with and without the arriving breaker. -/
theorem overlapExpiryTrips : Obligations.OverlapExpiryTrips := by
  intro node o s hr hone hnode hrunning hdue
  have hfind : s.blocks.tiu.overlaps.find? (fun o => o.group.get node && !o.expired &&
      reached o.deadline s.sensed.now) = some o := by
    have hdue' : reached o.deadline s.sensed.now = true := hdue
    rw [show s.blocks.tiu.overlaps = [o] from hone]
    simp [hnode, hrunning, hdue']
  have hmark : s.blocks.tiu.overlaps.map (fun t => if t.group = o.group then { t with expired := true } else t) =
      [{ o with expired := true }] := by
    rw [show s.blocks.tiu.overlaps = [o] from hone]
    simp
  have hma : Breaker.ma ∈ overlapMains s.control o ↔ possiblyClosed s.control .ma = true ∧ o.group.ba = true := by
    simp [mem_overlapMains, breakerR, PerChannel.get]
  have hmb : Breaker.mb ∈ overlapMains s.control o ↔ possiblyClosed s.control .mb = true ∧ o.group.bb = true := by
    simp [mem_overlapMains, breakerR, PerChannel.get]
  refine ⟨overlapTargets s.control o, ?_, fun b => overlapTargets_arriving s.control o, fun hnot => ?_⟩
  · refine (s.act_settled _ hr).trans ?_
    simp only [hfind, Control.overlapExpire, hmark]
    rfl
  have hmain : ∀ {b}, b ≠ .tie → (b ∈ overlapRest s.control o ↔ b ∈ overlapMains s.control o) := fun hb => by
    rw [mem_overlapRest, or_iff_left fun h => hb h.1]
  have htie : Breaker.tie ∉ overlapMains s.control o := fun h => by
    simp [mem_overlapMains] at h
  rw [overlapTargets_rest _ _ hnot, hmain (b := .ma) nofun, hmain (b := .mb) nofun, mem_overlapRest (b := .tie),
    or_iff_right htie]
  refine ⟨fun b hb => ?_, hma, hmb, fun ⟨_, hnone⟩ => ⟨hnone _, hnone _⟩,
    fun ⟨hnoMa, hnoMb⟩ => ⟨rfl, fun a ha => ?_⟩⟩
  · rcases (mem_overlapRest _ _).1 hb with hb | ⟨rfl, -⟩
    · exact ((mem_overlapMains _ _).1 hb).1.imp id .inl
    · exact .inr (.inr rfl)
  · rcases ((mem_overlapMains _ _).1 ha).1 with rfl | rfl
    · exact hnoMa ha
    · exact hnoMb ha

end Sys2Proof.Machine
end

section
/-! The request frames (R161, R162; Table 11-1): their reading, and the judgement of a window's bytes. -/

namespace Sys2Proof.Machine

/-! ## Fields of several bytes -/

/-- Two neighbouring fields of a word, joined, are the field they make up. -/

theorem extractLsb'_join {n : Nat} (w : BitVec n) (lo a b : Nat) :
    w.extractLsb' (lo + b) a ++ w.extractLsb' lo b = w.extractLsb' lo (a + b) :=
  BitVec.extractLsb'_append_extractLsb'_eq_extractLsb' rfl

theorem join16_split16 (w : Word16) : join16 (w.extractLsb' 8 8) (w.extractLsb' 0 8) = w :=
  (extractLsb'_join w 0 8 8).trans BitVec.extractLsb'_eq_self

theorem join32_split32 (w : Word32) :
    join32 (w.extractLsb' 24 8) (w.extractLsb' 16 8) (w.extractLsb' 8 8) (w.extractLsb' 0 8) = w := by
  have hhigh : w.extractLsb' 24 8 ++ w.extractLsb' 16 8 = w.extractLsb' 16 16 := extractLsb'_join w 16 8 8
  have hlow : w.extractLsb' 8 8 ++ w.extractLsb' 0 8 = w.extractLsb' 0 16 := extractLsb'_join w 0 8 8
  exact (congr (congrArg (· ++ ·) hhigh) hlow).trans ((extractLsb'_join w 0 16 16).trans BitVec.extractLsb'_eq_self)

/-! ## The bytes of a window (R161) -/

theorem checksum_withChecksum (l : List Byte) : checksum (withChecksum l) = 0 := by
  have hsum : ((withChecksum l).map BitVec.toNat).sum =
      (l.map BitVec.toNat).sum + (256 - (l.map BitVec.toNat).sum % 256) % 256 := by
    simp [withChecksum, checksum]
  rw [checksum, hsum]
  omega

theorem windowCommand_short (p : Port) (bytes : List Byte) (h : endsShort bytes = true) :
    windowCommand p bytes = .windowEnded p bytes := by
  unfold endsShort at h
  unfold windowCommand
  cases hend : requestEnd bytes with
  | none => rfl
  | some n =>
    rw [hend] at h
    exact if_pos (of_decide_eq_true h)

section Whole

variable (p : Port) {code len : Byte} {rest : List Byte}

theorem windowCommand_whole (h : len.toNat + 1 ≤ rest.length) : windowCommand p (code :: len :: rest) =
    judgeFrame p ((code :: len :: rest).take (len.toNat + 3)) :=
  if_neg (by rw [List.length_cons, List.length_cons]; omega)

theorem judgeFrame_bad {frame : List Byte} (h : checksum frame ≠ 0) : judgeFrame p frame = .badCheck p := if_pos h

theorem judgeFrame_summed (h : checksum (code :: len :: rest) = 0) : judgeFrame p (code :: len :: rest) =
    (parseRequest p code.toNat rest.dropLast).getD (.badRequest p) :=
  if_neg (not_not_intro h)

/-- A frame that sums to 0 is read from its code and as many payload bytes as its length byte says. -/
theorem windowCommand_summed (h : len.toNat + 1 ≤ rest.length)
    (hsum : checksum ((code :: len :: rest).take (len.toNat + 3)) = 0) :
    windowCommand p (code :: len :: rest) =
      (parseRequest p code.toNat (rest.take len.toNat)).getD (.badRequest p) := by
  have hpayload : (rest.take (len.toNat + 1)).dropLast = rest.take len.toNat := by
    rw [List.dropLast_eq_take, List.take_take, List.length_take]
    congr 1
    omega
  rw [windowCommand_whole p h, ← hpayload]
  exact judgeFrame_summed p hsum

end Whole

/-! ## The code and length of a request (Table 11-1) -/

/-- A reader of payloads that takes those of one length, each as a request of the port, or none at all. -/
def ReadsLength (p : Port) (n : Option Nat) (reader : List Byte → Option Instr) : Prop :=
  ∀ payload : List Byte,
    (n = some payload.length → ∃ c cl, reader payload = some c ∧ requestOf c = some (p, cl)) ∧
    (n ≠ some payload.length → reader payload = none)

section Readers

variable {p : Port} {cl : RequestClass}

theorem readsLength_noOperand {i : Instr} (h : requestOf i = some (p, cl)) :
    ReadsLength p (some 0) (noOperand i)
  | [] => ⟨fun _ => ⟨i, cl, rfl, h⟩, fun hlen => absurd rfl hlen⟩
  | _ :: _ => ⟨nofun, fun _ => rfl⟩

theorem readsLength_oneByte {f : Byte → Instr} (h : ∀ a, requestOf (f a) = some (p, cl)) :
    ReadsLength p (some 1) (oneByte f)
  | [a] => ⟨fun _ => ⟨f a, cl, rfl, h a⟩, fun hlen => absurd rfl hlen⟩
  | [] | _ :: _ :: _ => ⟨nofun, fun _ => rfl⟩

theorem readsLength_twoBytes {f : Byte → Byte → Instr} (h : ∀ a b, requestOf (f a b) = some (p, cl)) :
    ReadsLength p (some 2) (twoBytes f)
  | [a, b] => ⟨fun _ => ⟨f a b, cl, rfl, h a b⟩, fun hlen => absurd rfl hlen⟩
  | [] | [_] | _ :: _ :: _ :: _ => ⟨nofun, fun _ => rfl⟩

theorem readsLength_threeBytes {f : Byte → Byte → Byte → Instr} (h : ∀ a b c, requestOf (f a b c) = some (p, cl)) :
    ReadsLength p (some 3) (threeBytes f)
  | [a, b, c] => ⟨fun _ => ⟨f a b c, cl, rfl, h a b c⟩, fun hlen => absurd rfl hlen⟩
  | [] | [_] | [_, _] | _ :: _ :: _ :: _ :: _ => ⟨nofun, fun _ => rfl⟩

theorem readsLength_sixBytes {f : Byte → Byte → Word32 → Instr} (h : ∀ a b v, requestOf (f a b v) = some (p, cl)) :
    ReadsLength p (some 6) (sixBytes f)
  | [a, b, c, d, e, g] => ⟨fun _ => ⟨f a b (join32 c d e g), cl, rfl, h _ _ _⟩, fun hlen => absurd rfl hlen⟩
  | [] | [_] | [_, _] | [_, _, _] | [_, _, _, _] | [_, _, _, _, _] | _ :: _ :: _ :: _ :: _ :: _ :: _ :: _ =>
    ⟨nofun, fun _ => rfl⟩

/-- Whatever its action byte, a GEN_COMMAND is a request of class OPERATE (R183). -/
theorem requestOf_genCommand (p : Port) (slot action : Byte) :
    requestOf (genCommand p slot action) = some (p, .operate) := by
  unfold genCommand
  split
  · rfl
  · split
    · rfl
    · split
      · rfl
      · rfl

end Readers

/-- The reading of a payload, by its code, takes just the payloads of the length Table 11-1 requires. -/
theorem readsLength_parseRequest (p : Port) (code : Nat) :
    ReadsLength p (requestLength code) (parseRequest p code) := by
  unfold ReadsLength parseRequest
  split
  · exact readsLength_threeBytes (f := .readRecord p) fun _ _ _ => rfl
  · exact readsLength_noOperand (i := .status p) rfl
  · exact readsLength_oneByte (f := .eventRead p) fun _ => rfl
  · exact readsLength_noOperand (i := .takeover p) rfl
  · exact readsLength_noOperand (i := .release p) rfl
  · exact readsLength_noOperand (i := .liveness p) rfl
  · exact readsLength_noOperand (i := .hold p) rfl
  · exact readsLength_noOperand (i := .releaseHold p) rfl
  · exact readsLength_oneByte (f := .step p) fun _ => rfl
  · exact readsLength_twoBytes (f := .service p) fun _ _ => rfl
  · exact readsLength_oneByte (f := .operateClose p) fun _ => rfl
  · exact readsLength_oneByte (f := .operateOpen p) fun _ => rfl
  · exact readsLength_oneByte (f := .resetBreaker p) fun _ => rfl
  · exact readsLength_oneByte (f := .resetLockout p) fun _ => rfl
  · exact readsLength_threeBytes (f := .transfer p) fun _ _ _ => rfl
  · exact readsLength_oneByte (f := .cancelTransfer p) fun _ => rfl
  · exact readsLength_twoBytes (f := genCommand p) (requestOf_genCommand p)
  · exact readsLength_threeBytes (f := fun n d1 d0 => .biasSet p n (join16 d1 d0)) fun _ _ _ => rfl
  · exact readsLength_oneByte (f := .shed p) fun _ => rfl
  · exact readsLength_oneByte (f := .restore p) fun _ => rfl
  · exact readsLength_oneByte (f := .block p) fun _ => rfl
  · exact readsLength_oneByte (f := .unblock p) fun _ => rfl
  · exact readsLength_oneByte (f := .groupSelect p) fun _ => rfl
  · exact readsLength_noOperand (i := .sequenceReset p) rfl
  · exact readsLength_noOperand (i := .ackAttention p) rfl
  · exact readsLength_oneByte (f := .window p) fun _ => rfl
  · exact readsLength_twoBytes (f := .settingRead p) fun _ _ => rfl
  · exact readsLength_sixBytes (f := .settingWrite p) fun _ _ _ => rfl
  · exact readsLength_oneByte (f := .curveBegin p) fun _ => rfl
  · exact readsLength_sixBytes (f := fun t1 t0 => .curveEntry p (join16 t1 t0)) fun _ _ _ => rfl
  · have hnone : requestLength code = none := by simp_all [requestLength]
    exact fun payload => ⟨fun h => absurd (hnone.symm.trans h) nofun, fun _ => rfl⟩

theorem requestLength_of_parseRequest {p : Port} {code : Nat} {payload : List Byte} {c : Instr}
    (h : parseRequest p code payload = some c) : requestLength code = some payload.length := by
  refine Decidable.byContradiction fun hlen => ?_
  cases h.symm.trans ((readsLength_parseRequest p code payload).2 hlen)

/-! ## Requests read back -/

/-- The payload of a request reads back as the request. -/
theorem parseRequest_requestPayload {c : Instr} {p : Port} {code : Nat} {payload : List Byte}
    (h : requestPayload c = some (p, code, payload)) : parseRequest p code payload = some c := by
  cases c <;> cases h
  case biasSet n d => exact congrArg (fun d => some (Instr.biasSet p n d)) (join16_split16 d)
  case settingWrite x i v => exact congrArg (fun v => some (Instr.settingWrite p x i v)) (join32_split32 v)
  case curveEntry t r =>
    exact congr (congrArg (fun t r => some (Instr.curveEntry p t r)) (join16_split16 t)) (join32_split32 r)
  all_goals rfl

/-- A request's code and its length fit one byte each. -/
theorem requestLength_fits {code n : Nat} (h : requestLength code = some n) : code < 256 ∧ n < 60 := by
  simp only [requestLength, List.mem_cons, List.not_mem_nil, or_false] at h
  repeat
    split at h
    next hcode =>
      cases h
      exact ⟨by omega, by decide⟩
  cases h

/-- Settles O8, by the frame's checksum and length and the reading of each request's payload. -/
theorem requestFramesReadBack : Obligations.RequestFramesReadBack := by
  intro c p code payload extra h
  have hparse := parseRequest_requestPayload h
  obtain ⟨hcode, hlen⟩ := requestLength_fits (requestLength_of_parseRequest hparse)
  have hcode' : (BitVec.ofNat 8 code).toNat = code := Nat.mod_eq_of_lt hcode
  have hlen' : (BitVec.ofNat 8 payload.length).toNat = payload.length := Nat.mod_eq_of_lt (by omega)
  have hframe : (requestFrame code payload ++ extra).take (payload.length + 3) = requestFrame code payload :=
    List.take_left' (by simp [requestFrame, withChecksum])
  have hsum : checksum ((requestFrame code payload ++ extra).take
      ((BitVec.ofNat 8 payload.length).toNat + 3)) = 0 := by
    rw [hlen', hframe]
    exact checksum_withChecksum _
  have hread := windowCommand_summed p (code := BitVec.ofNat 8 code) (len := BitVec.ofNat 8 payload.length)
    (rest := payload ++ [BitVec.ofNat 8 (256 - checksum (BitVec.ofNat 8 code :: BitVec.ofNat 8 payload.length ::
      payload))] ++ extra) (by rw [hlen']; simp) hsum
  refine hread.trans ?_
  rw [hcode', hlen', List.append_assoc, List.take_left, hparse]
  rfl

/-- Settles O9, by the checksum and then the length the code requires. -/
theorem windowsAreJudgedInOrder : Obligations.WindowsAreJudgedInOrder := by
  intro p bytes
  refine ⟨windowCommand_short p bytes, ?_⟩
  rintro code len rest rfl hwhole
  refine ⟨fun hsum => (windowCommand_whole p hwhole).trans (judgeFrame_bad p hsum), fun hsum => ?_⟩
  have hcommand := windowCommand_summed p hwhole hsum
  have hlen : (rest.take len.toNat).length = len.toNat := List.length_take_of_le (by omega)
  obtain ⟨htaken, hnone⟩ := readsLength_parseRequest p code.toNat (rest.take len.toNat)
  rw [hlen] at htaken hnone
  refine ⟨fun hwrong => ?_, fun hlength => ?_⟩
  · have hother : requestLength code.toNat ≠ some len.toNat :=
      hwrong.elim (fun hlong h => absurd (requestLength_fits h).2 (by omega)) id
    rw [hcommand, hnone hother]
    rfl
  · obtain ⟨c, cl, hread, hc⟩ := htaken hlength
    rw [hcommand, hread]
    exact ⟨cl, hc⟩

end Sys2Proof.Machine
end

section
/-! The source groups and the supply states (R65 to R67). -/

namespace Sys2Proof.Machine

/-! ## Labels that name the classes of a relation -/

/-- Two nodes that the links of a relation join, taken either way and one after the other. -/
inductive Together (r : Channel → Channel → Prop) : Channel → Channel → Prop where
  | link {c d : Channel} (h : r c d) : Together r c d
  | here (c : Channel) : Together r c c
  | symm {c d : Channel} (h : Together r c d) : Together r d c
  | trans {c d e : Channel} (h : Together r c d) (h' : Together r d e) : Together r c e

theorem Together.mono {r r' : Channel → Channel → Prop} (hr : ∀ c d, r c d → r' c d) {c d : Channel}
    (h : Together r c d) : Together r' c d := by
  induction h with
  | link h => exact .link (hr _ _ h)
  | here c => exact .here c
  | symm _ ih => exact ih.symm
  | trans _ _ ih ih' => exact ih.trans ih'

/-- What the links keep equal is equal throughout a class. -/
theorem Together.same {r : Channel → Channel → Prop} {α : Type} {f : Channel → α} (hr : ∀ c d, r c d → f c = f d)
    {c d : Channel} (h : Together r c d) : f c = f d := by
  induction h with
  | link h => exact hr _ _ h
  | here => rfl
  | symm _ ih => exact ih.symm
  | trans _ _ ih ih' => exact ih.trans ih'

/-- Labels that two nodes share just if the relation joins them, each the lowest index of a node that has it. -/
structure Labels (r : Channel → Channel → Prop) (t : PerChannel Nat) : Prop where
  same : ∀ c d, t.get c = t.get d ↔ Together r c d
  le : ∀ c, t.get c ≤ c.index
  named : ∀ c, ∃ d, d.index = t.get c ∧ t.get d = t.get c

/-- Each node by itself. -/
theorem Labels.alone : Labels (fun _ _ => False) (.ofFn Channel.index) where
  same c d := by
    rw [PerChannel.get_ofFn, PerChannel.get_ofFn]
    refine ⟨fun h => ?_, fun h => ?_⟩
    · have hcd : c = d := by revert h; cases c <;> cases d <;> decide
      exact hcd ▸ .here c
    · exact h.same (f := Channel.index) fun _ _ h => h.elim
  le c := Nat.le_of_eq (PerChannel.get_ofFn ..)
  named c := ⟨c, by rw [PerChannel.get_ofFn], rfl⟩

section Merge

variable (t : PerChannel Nat) (x y : Channel)

/-- Whether a node is of one of the two groups merged. -/
def ofMerged (c : Channel) : Prop := t.get c = t.get x ∨ t.get c = t.get y

theorem mergeLabels_merged {c : Channel} (h : ofMerged t x y c) :
    (mergeLabels t x y).get c = min (t.get x) (t.get y) := by
  unfold mergeLabels
  dsimp only
  unfold ofMerged at h
  split
  · omega
  · simp [PerChannel.get_ofFn, h]

theorem mergeLabels_apart {c : Channel} (h : ¬ofMerged t x y c) : (mergeLabels t x y).get c = t.get c := by
  unfold mergeLabels
  dsimp only
  unfold ofMerged at h
  split
  · rfl
  · simp [PerChannel.get_ofFn, h]

/-- Two nodes share a label after the merge just if they did before, or are both of the groups merged. -/
theorem mergeLabels_same (c d : Channel) : (mergeLabels t x y).get c = (mergeLabels t x y).get d ↔
    t.get c = t.get d ∨ (ofMerged t x y c ∧ ofMerged t x y d) := by
  by_cases hc : ofMerged t x y c <;> by_cases hd : ofMerged t x y d
  · simp [mergeLabels_merged, hc, hd]
  · rw [mergeLabels_merged t x y hc, mergeLabels_apart t x y hd]
    unfold ofMerged at hc hd ⊢
    omega
  · rw [mergeLabels_apart t x y hc, mergeLabels_merged t x y hd]
    unfold ofMerged at hc hd ⊢
    omega
  · simp [mergeLabels_apart, hc, hd]

end Merge

/-- The relation with one more link. -/
def withLink (r : Channel → Channel → Prop) (x y c d : Channel) : Prop := r c d ∨ (c = x ∧ d = y)

theorem Labels.merge {r : Channel → Channel → Prop} {t : PerChannel Nat} (h : Labels r t) (x y : Channel) :
    Labels (withLink r x y) (mergeLabels t x y) where
  same c d := by
    have hold : ∀ {c d}, t.get c = t.get d → Together (withLink r x y) c d := fun h' =>
      ((h.same _ _).1 h').mono fun _ _ => .inl
    have hlink : Together (withLink r x y) x y := .link (.inr ⟨rfl, rfl⟩)
    have hjoins : ∀ {c}, ofMerged t x y c → Together (withLink r x y) c x := fun hc =>
      hc.elim hold fun hc => (hold hc).trans hlink.symm
    refine (mergeLabels_same t x y c d).trans ⟨fun h' => ?_, fun h' => ?_⟩
    · exact h'.elim hold fun ⟨hc, hd⟩ => (hjoins hc).trans (hjoins hd).symm
    · rw [← mergeLabels_same]
      refine h'.same (f := (mergeLabels t x y).get) fun c d hcd => ?_
      rw [mergeLabels_same]
      rcases hcd with hcd | ⟨rfl, rfl⟩
      · exact .inl ((h.same c d).2 (.link hcd))
      · exact .inr ⟨.inl rfl, .inr rfl⟩
  le c := by
    by_cases hc : ofMerged t x y c
    · rw [mergeLabels_merged t x y hc]
      have := h.le c
      unfold ofMerged at hc
      omega
    · rw [mergeLabels_apart t x y hc]
      exact h.le c
  named c := by
    by_cases hc : ofMerged t x y c
    · obtain ⟨z, hz, hmin⟩ : ∃ z, ofMerged t x y z ∧ t.get z = min (t.get x) (t.get y) :=
        (Nat.le_total (t.get x) (t.get y)).elim (fun h => ⟨x, .inl rfl, (Nat.min_eq_left h).symm⟩)
          fun h => ⟨y, .inr rfl, (Nat.min_eq_right h).symm⟩
      obtain ⟨d, hindex, hd⟩ := h.named z
      have hd' : ofMerged t x y d := by unfold ofMerged; rwa [hd]
      exact ⟨d, by rw [mergeLabels_merged t x y hc, hindex, hmin],
        by rw [mergeLabels_merged t x y hc, mergeLabels_merged t x y hd']⟩
    · obtain ⟨d, hindex, hd⟩ := h.named c
      have hd' : ¬ofMerged t x y d := by unfold ofMerged; rwa [hd]
      exact ⟨d, by rw [mergeLabels_apart t x y hc, hindex],
        by rw [mergeLabels_apart t x y hc, mergeLabels_apart t x y hd', hd]⟩

/-! ## The groups of the part (R66) -/

section Groups

variable (k : Control)

/-- A possibly-closed breaker of a list that joins two nodes. -/
def LinkedBy (bs : List Breaker) (c d : Channel) : Prop :=
  ∃ b, b ∈ bs ∧ breakerX b = some c ∧ breakerR b = d ∧ possiblyClosed k b = true

/-- The labels with the nodes of one breaker merged, if it is possibly closed. -/
def mergeBreaker (t : PerChannel Nat) (b : Breaker) : PerChannel Nat :=
  match breakerX b with
  | some x => if possiblyClosed k b then mergeLabels t x (breakerR b) else t
  | none => t

theorem groupLabels_eq : groupLabels k = joiningBreakers.foldl (mergeBreaker k) (.ofFn Channel.index) := rfl

/-- The labels name the classes of a relation, whichever of two ways it is written. -/
theorem Labels.congr {r r' : Channel → Channel → Prop} {t : PerChannel Nat} (h : Labels r t)
    (hr : ∀ c d, r c d ↔ r' c d) : Labels r' t := by
  have hsame : r = r' := funext fun c => funext fun d => propext (hr c d)
  exact hsame ▸ h

theorem Labels.mergeBreaker {r : Channel → Channel → Prop} {t : PerChannel Nat} (h : Labels r t) (b : Breaker) :
    Labels (fun c d => r c d ∨ LinkedBy k [b] c d) (mergeBreaker k t b) := by
  unfold Machine.mergeBreaker
  split
  next x hx =>
    split
    next hclosed =>
      refine (h.merge x (breakerR b)).congr fun c d => or_congr_right ⟨fun ⟨hc, hd⟩ => ?_, fun ⟨a, ha, hc, hd, _⟩ => ?_⟩
      · exact ⟨b, List.mem_singleton_self b, hx.trans (congrArg some hc.symm), hd.symm, hclosed⟩
      · cases List.mem_singleton.1 ha
        exact ⟨Option.some.inj (hc.symm.trans hx), hd.symm⟩
    next hopen => exact h.congr fun c d => by simp [LinkedBy, hopen]
  next hx => exact h.congr fun c d => by simp [LinkedBy, hx]

theorem Labels.mergeBreakers (bs : List Breaker) {r : Channel → Channel → Prop} {t : PerChannel Nat} (h : Labels r t) :
    Labels (fun c d => r c d ∨ LinkedBy k bs c d) (bs.foldl (Machine.mergeBreaker k) t) := by
  induction bs generalizing r t with
  | nil => exact h.congr fun c d => by simp [LinkedBy]
  | cons b bs ih =>
    refine (ih (h.mergeBreaker k b)).congr fun c d => ?_
    simp [LinkedBy, or_assoc, or_and_right, exists_or]

theorem closing_iff (b : Breaker) : closing k b = true ↔ ∃ op, (k.breaker b).op = some op ∧ op.kind = .close := by
  unfold closing
  cases (k.breaker b).op with
  | none => simp
  | some op => simp

theorem possiblyClosed_iff (b : Breaker) : possiblyClosed k b = true ↔ (breakerX b).isSome = true ∧
    k.outOfService b = false ∧
    ((k.breaker b).observed ≠ .opened ∨ ∃ op, (k.breaker b).op = some op ∧ op.kind = .close) := by
  rw [← closing_iff]
  simp [possiblyClosed, and_assoc]

theorem mem_joiningBreakers {b : Breaker} (h : (breakerX b).isSome = true) : b ∈ joiningBreakers := by
  cases b
  all_goals revert h; decide

theorem linkedBy_joiningBreakers (c d : Channel) : LinkedBy k joiningBreakers c d ↔ Linked k c d := by
  refine exists_congr fun b => ⟨fun ⟨_, hx, hr, hclosed⟩ => ⟨hx, hr, ((possiblyClosed_iff k b).1 hclosed).2⟩,
    fun ⟨hx, hr, hstate⟩ => ?_⟩
  have hjoins : (breakerX b).isSome = true := by rw [hx]; rfl
  exact ⟨mem_joiningBreakers hjoins, hx, hr, (possiblyClosed_iff k b).2 ⟨hjoins, hstate⟩⟩

theorem groupLabels_labels : Labels (Linked k) (groupLabels k) :=
  groupLabels_eq k ▸ (Labels.alone.mergeBreakers k joiningBreakers).congr fun c d =>
    (or_iff_right id).trans (linkedBy_joiningBreakers k c d)

theorem Joined.trans {k : Control} {c d e : Channel} (h : Joined k c d) (h' : Joined k d e) : Joined k c e := by
  induction h' with
  | here => exact h
  | next _ link ih => exact ih.next link

theorem Joined.symm {k : Control} {c d : Channel} (h : Joined k c d) : Joined k d c := by
  induction h with
  | here => exact .here
  | next _ link ih => exact (Joined.here.next link.symm).trans ih

/-- A chain of possibly-closed breakers joins the nodes that their links bring together. -/
theorem joined_iff (c d : Channel) : Joined k c d ↔ Together (Linked k) c d := by
  constructor
  · intro h
    induction h with
    | here => exact .here c
    | next _ link ih => exact ih.trans (link.elim .link fun h => .symm (.link h))
  · intro h
    induction h with
    | link h => exact Joined.here.next (.inl h)
    | here => exact .here
    | symm _ ih => exact ih.symm
    | trans _ _ ih ih' => exact ih.trans ih'

end Groups

/-- Settles O32, by the labels merged breaker by breaker and the table of supply states. -/
theorem groupsAndSupplyStatesAreFormed : Obligations.GroupsAndSupplyStatesAreFormed := by
  refine ⟨fun k => ?_, fun k c => ?_, fun l s => ?_⟩
  · obtain ⟨hsame, hle, hnamed⟩ := groupLabels_labels k
    exact ⟨fun c d => (hsame c d).trans (joined_iff k c d).symm, hle, hnamed⟩
  · intro joined
    rfl
  · obtain ⟨u1, u2, gen⟩ := s
    cases l
    · revert u1 u2 gen
      decide
    · revert u1 u2 gen
      decide

end Sys2Proof.Machine
end
